-- ==== Sys2Proof/Word.lean ====
section
/-!
DEFINITION. The plain data types every other file is written with: a byte, and a table of a fixed
number of like entries.
-/

namespace Sys2Proof

/-- One byte: of a frame, or of a cell (R1, R156). -/
abbrev Byte := BitVec 8

/-- A fixed number `n` of like things, numbered from 0 (the page's cells, the zones, the banks ...).
The list carries its own length, so that an entry can be read at every number below `n`. -/
structure Table (α : Type) (n : Nat) where
  cells : List α
  size : cells.length = n
  deriving DecidableEq, Repr

namespace Table

variable {α : Type} {n : Nat}

/-- The entry with number `i`. -/
def get (t : Table α n) (i : Fin n) : α := t.cells.get (i.cast t.size.symm)

/-- The table with entry `i` replaced. -/
def set (t : Table α n) (i : Fin n) (x : α) : Table α n :=
  ⟨t.cells.set i x, by simp [t.size]⟩

/-- The table whose entry `i` is `f i`. -/
def tab (f : Fin n → α) : Table α n := ⟨(List.finRange n).map f, by simp⟩

/-- The table with the same entry everywhere. -/
def fill (x : α) : Table α n := ⟨List.replicate n x, by simp⟩

/-- How many entries of a table of truth values are set: the size of the set the table stands for. -/
def count (t : Table Bool n) : Nat := t.cells.count true

/-- The numbers set in a table of truth values, in ascending order. -/
def members (t : Table Bool n) : List (Fin n) := (List.finRange n).filter t.get

end Table

end Sys2Proof
end

