-- ==== Sys2Proof/Config.lean ====
section
/-!
DEFINITION. What is fixed for every 2440 (capacities, limits, durations, identity), and the one free
value of the model, the CRC-32 of the retained record.
-/

namespace Sys2Proof.Config

/-- Entries the fault map holds (R132). -/
def faultMapCapacity : Nat := 64
/-- Pane records the table holds (R33). -/
def paneCapacity : Nat := 8
/-- Pins one stroke holds (R83, R89). -/
def strokePinLimit : Nat := 64
/-- Notices that wait in one port (R176). -/
def noticeCapacity : Nat := 8
/-- Bytes one receive buffer holds (R161). -/
def receiveBuffer : Nat := 512
/-- Charge units of a full reservoir (R96). -/
def reservoirCapacity : Nat := 512
/-- Fault entries one FAULT_LIST reply carries (R136). -/
def faultListPage : Nat := 24
/-- Wear counts one WEAR_READ reply carries (R147). -/
def wearReadPage : Nat := 48
/-- The value a wear count stops at (R146). -/
def wearLimit : Nat := 4294967295
/-- Greatest payload of a frame (R156). -/
def payloadLimit : Nat := 240

/-- Self-test of a module, ms (R105, R107). -/
def selfTestMs : Nat := 50
/-- Arming timer of a zone, ms (R50). -/
def armingMs : Nat := 30
/-- Release timer of a zone, ms (R50). -/
def releaseMs : Nat := 150
/-- Settle after a stroke's longest pulse, µs (R93). -/
def settleUs : Nat := 400
/-- A reading at or above this takes a READY module to HOT, °C (R109). -/
def hotAt : Int := 85
/-- A reading at or below this takes a HOT module to READY, °C (R109). -/
def coolAt : Int := 75
/-- Least and greatest reading of a temperature sensor, °C (R105, R108). -/
def sensorLeast : Int := -40
def sensorGreatest : Int := 125
/-- Least and greatest bank trim (R142). -/
def trimLeast : Int := -32
def trimGreatest : Int := 31
/-- Least and greatest pulse width, µs (R79). -/
def widthLeast : Int := 150
def widthGreatest : Int := 3000

/-- IDENTIFY's vendor, family and part, as ASCII characters (R169, R181). -/
def vendor : List Byte := [0x43, 0x61, 0x72, 0x6E, 0x65, 0x6C, 0x6F, 0x77]
def family : List Byte := [0x57, 0x61, 0x6C, 0x76, 0x69, 0x6B]
def part : List Byte := [0x32, 0x34, 0x34, 0x30]
/-- IDENTIFY's design revision (R169). -/
def designRevision : Byte := 3

/-- A number of answers in a row after which a chain of prompts of the status-line writer is known to have no
end: every chain that ends does so in fewer (log entry 9 gives the reckoning). -/
def recomputeLimit : Nat := 4096

/-- The CRC-32 of a retained record over its four parts, each given as the numbers it holds in stored
order (R148). FREE VALUE: the manual gives neither the polynomial nor the layout the check value is
computed over, and it is never reported on a link (log entry 4). -/
opaque recordCrc32 (settings trims faults wear : List Int) : BitVec 32

end Sys2Proof.Config
end

