-- ==== Sys2Proof/Syntax.lean ====
section
/-!
DEFINITION. The commands of the block: one constructor for each row of spec/opcode_table.json.

The table gives its rows no operands. A constructor carries what the outside decides when the step
happens: the link it happens on, the byte or the reading that arrives, the pin states a module
returns. A request row is the TAKING of a request by the handler of a link (R162): kind, tag and
payload are those of the oldest complete frame in that port's receive buffer (log entry 2).
-/

namespace Sys2Proof

/-- The two serial links (R155). -/
inductive Link where
  | station | patron
  deriving DecidableEq, Repr

/-- The 40 cell bytes of one line; bit 0 of a byte stands for dot 1, bit 7 for dot 8 (R1). -/
abbrev Content := Table Byte 40

/-- What a module reports during a stroke (R113). -/
inductive DriveFault where
  | overcurrent | openCoil
  deriving DecidableEq, Repr

/-- What comes with the completion of a verify sense: the pin states the module returns, and the links
whose handlers take the TRIM_LIST at the front of their buffers between the trim updates of the line's two
banks (R145; log entry 29). -/
structure VerifyResult where
  states : Content
  trimLists : List Link
  deriving DecidableEq, Repr

/-- The commands: requests as a handler takes them, and the events that reach the 2440. -/
inductive Instr where
  /-- Power is applied (R151). -/
  | powerOn
  /-- The 20 ms record load ends (R151, R152). `answers`: the module positions that answer when they
  are called (R106; looked at after power-on only). `readings`: the first temperature reading of each
  module that enters STARTING (R107). -/
  | recordLoadComplete (answers : Table Bool 8) (readings : Table Int 8)
  /-- A requested soft reset takes effect (R179, R180). -/
  | softResetTakesEffect
  /-- A byte arrives on a link (R159). -/
  | byteReceived (link : Link) (byte : Byte)
  /-- The 20 ms gap timer of a port runs out (R159). -/
  | gapTimerExpiry (link : Link)
  /-- The last byte of the frame in sending goes out (R158). -/
  | frameSent (link : Link)
  /-- Patron presence is deasserted (R42, R178). -/
  | presenceLost
  /-- Patron presence is asserted (R43). -/
  | presenceGained
  /-- A frame whose kind is no request kind is taken (R163). -/
  | unknownKindRequest (link : Link)
  | identify (link : Link)
  | status (link : Link)
  | getSetting (link : Link)
  | setSetting (link : Link)
  | writeCells (link : Link)
  | fillLines (link : Link)
  | showPanes (link : Link)
  | cancel (link : Link)
  | readImage (link : Link)
  | paneList (link : Link)
  | paneSplit (link : Link)
  | paneMerge (link : Link)
  | paneGrant (link : Link)
  | faultList (link : Link)
  | faultClear (link : Link)
  | trimList (link : Link)
  | wearRead (link : Link)
  | recordCommit (link : Link)
  /-- The 150 ms write of a RECORD_COMMIT completes (R150). -/
  | recordWriteComplete
  /-- MODULE_RESET is taken; `reading` is the temperature reading the module takes if it enters
  STARTING (R107, R108). -/
  | moduleReset (link : Link) (reading : Int)
  | reset (link : Link)
  /-- A zone sensor's reading becomes present or absent (R49, R50). -/
  | zoneReadingPresent (zone : Fin 96)
  | zoneReadingAbsent (zone : Fin 96)
  | armingTimerExpiry (zone : Fin 96)
  | releaseTimerExpiry (zone : Fin 96)
  /-- A module's self-test ends with its outcome and a temperature reading (R107). -/
  | selfTestComplete (module : Fin 8) (passed : Bool) (reading : Int)
  /-- A periodic temperature reading (R108). -/
  | temperatureReading (module : Fin 8) (reading : Int)
  /-- A module reports a fault of the stroke it holds (R113). `completionFirst`: the report arrives
  together with the stroke's completion, and the completion is taken first. -/
  | moduleFaultReport (module : Fin 8) (cause : DriveFault) (completionFirst : Bool)
  /-- The sense pass in flight ends without states (R114). -/
  | sensePassFailed
  /-- A sense pass of the kind named completes; `states` are the pin states the module returns (R112). -/
  | sweepSenseComplete (states : Content)
  | preSenseComplete (states : Content)
  | verifySenseComplete (result : VerifyResult)
  | cancelSenseComplete (states : Content)
  | auditSenseComplete (states : Content)
  | returnSenseComplete (states : Content)
  /-- The stroke in flight completes (R93). -/
  | strokeComplete
  /-- A 25 µs step of a CHARGING charger ends (R100). -/
  | chargerStep
  /-- The charger's idle interval runs out (R101). -/
  | chargerIdleExpiry
  /-- The audit interval runs out (R30). -/
  | auditIntervalExpiry
  /-- The deadline runs out (R24). -/
  | deadlineExpiry
  /-- Power is removed (R150). -/
  | powerLost
  deriving DecidableEq, Repr

end Sys2Proof
end

