-- ==== Sys2Proof/WellFormed.lean ====
section
/-!
DEFINITION. Which commands are well formed: every temperature reading a command carries lies within
the sensor's range (R105, R108). Every other operand is in range by its type.
-/

namespace Sys2Proof

/-- A whole number of °C from −40 to +125 (R105, R108). -/
def inSensorRange (t : Int) : Bool :=
  decide (Config.sensorLeast ≤ t) && decide (t ≤ Config.sensorGreatest)

/-- The check. Written constructor by constructor, so that a new command cannot slip past it. -/
def Instr.wellFormed : Instr → Bool
  | .powerOn => true
  | .recordLoadComplete _ readings => readings.cells.all inSensorRange
  | .softResetTakesEffect => true
  | .byteReceived _ _ => true
  | .gapTimerExpiry _ => true
  | .frameSent _ => true
  | .presenceLost => true
  | .presenceGained => true
  | .unknownKindRequest _ => true
  | .identify _ => true
  | .status _ => true
  | .getSetting _ => true
  | .setSetting _ => true
  | .writeCells _ => true
  | .fillLines _ => true
  | .showPanes _ => true
  | .cancel _ => true
  | .readImage _ => true
  | .paneList _ => true
  | .paneSplit _ => true
  | .paneMerge _ => true
  | .paneGrant _ => true
  | .faultList _ => true
  | .faultClear _ => true
  | .trimList _ => true
  | .wearRead _ => true
  | .recordCommit _ => true
  | .recordWriteComplete => true
  | .moduleReset _ reading => inSensorRange reading
  | .reset _ => true
  | .zoneReadingPresent _ => true
  | .zoneReadingAbsent _ => true
  | .armingTimerExpiry _ => true
  | .releaseTimerExpiry _ => true
  | .selfTestComplete _ _ reading => inSensorRange reading
  | .temperatureReading _ reading => inSensorRange reading
  | .moduleFaultReport _ _ _ => true
  | .sensePassFailed => true
  | .sweepSenseComplete _ => true
  | .preSenseComplete _ => true
  | .verifySenseComplete _ => true
  | .cancelSenseComplete _ => true
  | .auditSenseComplete _ => true
  | .returnSenseComplete _ => true
  | .strokeComplete => true
  | .chargerStep => true
  | .chargerIdleExpiry => true
  | .auditIntervalExpiry => true
  | .deadlineExpiry => true
  | .powerLost => true

end Sys2Proof
end

