-- ==== Sys2Proof/Decode.lean ====
section
/-!
DEFINITION. Which command a word spells by the bits of spec/opcode_table.json. The table gives no row
any bits (a row is a step of the block, not an encoding), so no word spells one. The frames the links
carry are decoded by the ports and the request handlers (Machine/Operands.lean, Machine/Requests.lean).
-/

namespace Sys2Proof

/-- The command that a word of `nbits` bits spells by the table: none, since no row gives bits. -/
def decodeTableWord (_nbits _w : Nat) : Option Instr := none

end Sys2Proof
end

