-- ==== Sys2Proof/Machine/State.lean ====
section
/-!
DEFINITION. The state of the 2440 as plain data, block by block (00, Block overview), and the state
right after reset.
-/

namespace Sys2Proof.Machine

/-! ### Numbers of the page (R1) -/

abbrev Line := Fin 24
abbrev Cell := Fin 40
/-- Bit number of a dot in a cell byte: dot 1 is 0, dot 8 is 7 (R1). -/
abbrev Dot := Fin 8
/-- A pin of one line, numbered in the order of the walk: 80 × strip + strip position (R1, R87). -/
abbrev LinePin := Fin 320
abbrev ZoneId := Fin 96
abbrev BankId := Fin 48
abbrev ModuleId := Fin 8
/-- A set of lines, one truth value a line. -/
abbrev LineSet := Table Bool 24
/-- A set of zones, one truth value a zone. -/
abbrev ZoneSet := Table Bool 96
/-- A page image: 24 lines of 40 cell bytes (960 cell bytes, R2 to R4). -/
abbrev Image := Table Content 24

/-! ### Names of the manual -/

/-- Writer identities (00, Terms). `localWriter` is LOCAL, the status-line writer. -/
inductive Identity where
  | station | patron | localWriter
  deriving DecidableEq, Repr

/-- The six states of the refresh engine (R31). -/
inductive EngineState where
  | idle | sensing | charging | striking | deferred | held
  deriving DecidableEq, Repr

/-- The charger's states (R98). -/
inductive ChargerState where
  | off | charging | full
  deriving DecidableEq, Repr

/-- The states of a module (R105). -/
inductive ModuleState where
  | absent | starting | ready | hot | faulted
  deriving DecidableEq, Repr

/-- The states of a touch zone (R50). -/
inductive ZoneState where
  | clear | arming | touched | releasing
  deriving DecidableEq, Repr

/-- Direction of a phase and of a stroke (R18, R83). -/
inductive Direction where
  | lower | raise
  deriving DecidableEq, Repr

/-- Classes of a neighbour pattern (R70). -/
inductive WidthClass where
  | short | normal | long
  deriving DecidableEq, Repr

/-- RESET_POLICY (R7, R171). -/
inductive ResetPolicy where
  | hold | blank
  deriving DecidableEq, Repr

/-- Kinds of a fault map entry (R131). -/
inductive FaultKind where
  | stuckRaised | stuckLowered
  deriving DecidableEq, Repr

/-- Outcomes a REFRESH_CLOSED notice reports (R11, R25). `partialWork` is PARTIAL. -/
inductive CloseOutcome where
  | complete | partialWork | cancelled | superseded
  deriving DecidableEq, Repr

/-- Refusal reasons, and NONE (R163). -/
inductive Reason where
  | noReason | unknownKind | badLength | outOfRange | notPermitted | busy | notReady | panesFull
  | panesMismatch
  deriving DecidableEq, Repr

/-- Outcome of the last record load (R151). -/
inductive RecordState where
  | loaded | defaulted
  deriving DecidableEq, Repr

/-- The two events a TOUCH notice reports (R62). -/
inductive TouchEvent where
  | touched | released
  deriving DecidableEq, Repr

/-- The kinds of sense pass (R112). -/
inductive SenseKind where
  | sweep | pre | verify | cancel | audit | return
  deriving DecidableEq, Repr

/-! ### Page store -/

/-- The page store (R2 to R5). `struck`: a stroke has been fired on the line since its last sense pass
(R5, R16; log entry 13). -/
structure PageStore where
  staging : Image
  target : Image
  sensed : Image
  fresh : LineSet
  struck : LineSet
  deriving DecidableEq, Repr

/-! ### Pane table and status-line writer -/

/-- One pane record (R33). -/
structure Pane where
  id : Fin 8
  first : Line
  last : Line
  owner : Identity
  deriving DecidableEq, Repr

/-- The status-line writer's own state (R44). `prompt`: a prompt of R45 that has not been answered (log
entry 9). -/
structure Writer where
  lastUnsettled : LineSet
  prompt : Bool
  deriving DecidableEq, Repr

/-! ### Contact guard -/

/-- A touch zone: its debounce state (R50) and its sensor's reading (R49). Its arming timer runs exactly
while it is ARMING, its release timer exactly while it is RELEASING. -/
structure Zone where
  state : ZoneState
  present : Bool
  deriving DecidableEq, Repr

/-! ### Refresh engine -/

/-- What the round state keeps of one pin of the current line (R17 "Working a line", R91, R122). -/
structure PinRound where
  /-- attempt count -/
  attempts : Nat
  /-- in the set of pins driven in the current phase -/
  drivenInPhase : Bool
  /-- in the set of pins driven since the line's last sense pass -/
  drivenSinceSense : Bool
  /-- in the round fired set -/
  firedInRound : Bool
  /-- in the retargeted set -/
  retargeted : Bool
  deriving DecidableEq, Repr

/-- The round state of the current line. -/
structure Round where
  number : Nat
  phase : Direction
  pins : Table PinRound 320
  deriving DecidableEq, Repr

/-- The current line with its round state. -/
structure Current where
  line : Line
  round : Round
  deriving DecidableEq, Repr

/-- A line taken by CANCEL while an operation on it was in flight (R28): the sender, whether the copy into
target is still to be made when the work ends, and VERIFY as the CANCEL read it (R140, R174). -/
structure CancelWork where
  line : Line
  canceller : Identity
  copyDue : Bool
  verify : Bool
  deriving DecidableEq, Repr

/-- The requesters of a refresh, a set of writer identities (R13). -/
structure Requesters where
  station : Bool
  patron : Bool
  localWriter : Bool
  deriving DecidableEq, Repr

/-- The refresh record, less the generation, which outlives it (R13). The deadline, while it runs,
holds the length it was started with (log entry 3). -/
structure Refresh where
  requesters : Requesters
  deadline : Option Nat
  expired : Bool
  linesDone : Nat
  newFaults : Nat
  clampCount : Nat
  unsettled : LineSet
  unavailable : LineSet
  deriving DecidableEq, Repr

/-- The refresh engine (R13 to R32, R117). -/
structure Engine where
  state : EngineState
  generation : BitVec 16
  refresh : Option Refresh
  queue : List Line
  current : Option Current
  cancelled : Option CancelWork
  stale : ZoneSet
  auditPosition : Line
  auditInterval : Option Nat
  returnList : List Line
  sweepWaiting : LineSet
  deriving DecidableEq, Repr

/-! ### Module interface -/

/-- A module record (R105). The temperature is held for every module that is not ABSENT. -/
structure ModuleRecord where
  state : ModuleState
  temperature : Option Int
  selfTest : Option Nat
  deriving DecidableEq, Repr

/-- A pin of a stroke: strip and strip position, width in µs, draw in charge units (R83). -/
structure StrokePin where
  pin : LinePin
  width : Nat
  draw : Nat
  deriving DecidableEq, Repr

/-- The stroke record (R83). -/
structure Stroke where
  line : Line
  module : ModuleId
  direction : Direction
  pins : List StrokePin
  drawSum : Nat
  longest : Nat
  deriving DecidableEq, Repr

/-- The one operation the module interface carries (R111, R112). -/
inductive Operation where
  | stroke (record : Stroke)
  | sense (kind : SenseKind) (line : Line)
  deriving DecidableEq, Repr

/-- The module interface (R105 to R112). -/
structure ModuleInterface where
  records : Table ModuleRecord 8
  present : Table Bool 8
  operation : Option Operation
  deriving DecidableEq, Repr

/-! ### Reservoir and charger -/

/-- The reservoir and the charger (R96 to R101). -/
structure Reservoir where
  q : Nat
  charger : ChargerState
  idle : Option Nat
  deriving DecidableEq, Repr

/-! ### Fault map, trim table, wear table -/

/-- A fault map entry (R132). -/
structure FaultEntry where
  line : Line
  cell : Cell
  dot : Dot
  kind : FaultKind
  generation : BitVec 16
  deriving DecidableEq, Repr

/-- The three tables of the actuators' health (R132, R142, R146). -/
structure Health where
  faultMap : List FaultEntry
  trims : Table Int 48
  wear : Table Nat 960
  deriving DecidableEq, Repr

/-! ### Settings and the retained record -/

/-- The 16 working settings (R171). -/
structure Settings where
  baseRaiseUs : Nat
  baseLowerUs : Nat
  classStepPct : Nat
  trimStepUs : Nat
  retryMax : Nat
  verify : Bool
  guard : Bool
  deferMs : Nat
  qFloor : Nat
  qReady : Nat
  chargerIdleMs : Nat
  auditMs : Nat
  touchNotices : Bool
  resetPolicy : ResetPolicy
  raiseTable : Table WidthClass 16
  lowerTable : Table WidthClass 16
  deriving DecidableEq, Repr

/-- The four parts of the retained record (R148). -/
structure Record where
  settings : Settings
  health : Health
  deriving DecidableEq, Repr

/-- A record with the check value written with it (R148). -/
structure CheckedRecord where
  record : Record
  crc : BitVec 32
  deriving DecidableEq, Repr

/-- What the store holds (R148, R150): nothing ever written; a whole record; or a record whose write did
not complete, which is neither blank nor valid. -/
inductive Stored where
  | blank
  | whole (content : CheckedRecord)
  | unfinished
  deriving DecidableEq, Repr

/-- The retained record store: what it holds, the snapshot of a commit in flight (R149, R150), and the
outcome of the last load (R151). -/
structure Store where
  stored : Stored
  commit : Option CheckedRecord
  recordState : RecordState
  deriving DecidableEq, Repr

/-! ### Messages and ports -/

/-- The counts REFRESH_CLOSED carries (R26). -/
structure CloseReport where
  generation : BitVec 16
  outcome : CloseOutcome
  linesDone : Nat
  staleZones : Nat
  unsettled : Nat
  unavailable : Nat
  newFaults : Nat
  clampCount : Nat
  deriving DecidableEq, Repr

/-- The notices (R175). -/
inductive Notice where
  | refreshClosed (report : CloseReport)
  | faultRecorded (line : Line) (cell : Cell) (dot : Dot) (kind : FaultKind)
  | moduleChanged (module : ModuleId) (state : ModuleState)
  | touch (zone : ZoneId) (event : TouchEvent)
  | recordWritten
  deriving DecidableEq, Repr

/-- The four sticky flags of one port (R177). -/
structure StickyFlags where
  driveLimit : Bool
  linkError : Bool
  noticesLost : Bool
  faultmapFull : Bool
  deriving DecidableEq, Repr

/-- The fields of a STATUS reply (R170). -/
structure StatusReport where
  accepting : Bool
  engine : EngineState
  refreshOpen : Bool
  generation : BitVec 16
  queueLength : Nat
  staleZones : Nat
  q : Nat
  v : Nat
  charger : ChargerState
  modules : Table ModuleState 8
  faultEntries : Nat
  lastRefusal : Reason
  flags : StickyFlags
  deriving DecidableEq, Repr

/-- The replies, field by field (R163, R165, R181). -/
inductive Reply where
  | identify (present : Table Bool 8) (recordState : RecordState)
  | status (report : StatusReport)
  | settingValue (id : Nat) (value : Nat)
  | settingTable (id : Nat) (classes : Table WidthClass 16)
  | settingStored (id : Nat) (value : Nat)
  | cellsWritten (written skipped : Nat)
  | linesFilled (written skipped : Nat)
  | shown (generation : BitVec 16) (queued unavailable : Nat)
  | cancelled (generation : BitVec 16) (lines zones : Nat)
  | image (code : Nat) (line : Line) (content : Content)
  | panes (table : List Pane)
  | paneSplit (newId : Fin 8)
  | paneMerged (id : Fin 8) (last : Line)
  | paneGranted (id : Fin 8) (owner : Identity)
  | faults (count : Nat) (start : Nat) (entries : List FaultEntry)
  | faultsCleared (removed left : Nat)
  | trims (table : Table Int 48)
  | wear (first : Nat) (counts : List Nat)
  | recordCommit
  | moduleReset (module : ModuleId) (state : ModuleState)
  | reset
  | refused (kind : Byte) (reason : Reason)
  deriving DecidableEq, Repr

/-- A frame waiting in a transmit queue: a reply with the tag of its request, or a notice (R155). -/
inductive Message where
  | reply (tag : Byte) (reply : Reply)
  | notice (notice : Notice)
  deriving DecidableEq, Repr

/-- A frame on a link, less its start byte and its length, which the payload gives (R156). -/
structure Frame where
  kind : Byte
  tag : Byte
  payload : List Byte
  crc : BitVec 16
  deriving DecidableEq, Repr

/-- The receiver of a port, with the fields of the frame being received (R159). -/
inductive Receiver where
  | hunt
  | length
  | kind (length : Byte)
  | tag (length kind : Byte)
  | payload (length kind tag : Byte) (got : List Byte)
  | check (length kind tag : Byte) (payload : List Byte) (first : Option Byte)
  deriving DecidableEq, Repr

/-- One port (R155). The receive buffer is `frames`, the complete frames not yet taken, oldest first,
with the bytes `receiver` holds. The transmit queue is `queue`, oldest first. -/
structure Port where
  receiver : Receiver
  frames : List Frame
  queue : List Message
  sending : Option Frame
  flags : StickyFlags
  lastRefusal : Reason
  deriving DecidableEq, Repr

/-- A RESET that has been taken and is not yet in effect (R179): whether the reply to the patron's last
request had not been sent in full when it was taken, and whether a commit has completed since. -/
structure ResetWait where
  patronReply : Bool
  commitCompleted : Bool
  deriving DecidableEq, Repr

/-- The ports, the presence line of the desk connector, and a RESET in waiting. -/
structure Ports where
  station : Port
  patron : Port
  presence : Bool
  resetWait : Option ResetWait
  deriving DecidableEq, Repr

/-- How far the 2440 has come since power was applied (R6, R151, R152). `loadingReset` holds the modules
that were READY, HOT or STARTING when the soft reset took effect. -/
inductive Stage where
  | unpowered
  | loadingPowerOn
  | loadingReset (restart : Table Bool 8)
  | sweeping
  | running
  deriving DecidableEq, Repr

/-! ### The state -/

/-- The state of the 2440, and the queue of the commands that wait. -/
structure State where
  pending : List Instr
  stage : Stage
  page : PageStore
  panes : List Pane
  writer : Writer
  zones : Table Zone 96
  engine : Engine
  modules : ModuleInterface
  reservoir : Reservoir
  health : Health
  store : Store
  settings : Settings
  ports : Ports
  deriving DecidableEq, Repr

/-- Why a step can stop with a fault. No command of this block does: everything that goes wrong in a 2440
is state and messages (R160, R163, R113, R134). -/
inductive Fault where
  /-- Raised by no command. Safe. -/
  | noFault
  deriving DecidableEq, Repr

/-- Why a command is refused. -/
inductive Refusal where
  /-- A command whose meaning is not written; exec's arms alone answer it. Safe. -/
  | notModelled (mnemonic : String)
  /-- An event that the manual says cannot reach the block in this state (a completion of an operation
  that is not in flight, the expiry of a timer that does not run, a reading that becomes what it is).
  Raised by the event commands. Safe: the model stops where the hardware cannot be. -/
  | cannotArise
  /-- The taking of a request by a handler that cannot take one of this kind now: no complete frame of
  the kind at the front of the buffer, a reply still being sent, the port out of service, or a RESET in
  waiting (R162, R179). Raised by the request commands. Safe. -/
  | notAtHandler
  deriving DecidableEq, Repr

/-! ### Updates of one block -/

namespace State

def setPending (s : State) (x : List Instr) : State := { s with pending := x }
def setStage (s : State) (x : Stage) : State := { s with stage := x }
def setPage (s : State) (x : PageStore) : State := { s with page := x }
def setPanes (s : State) (x : List Pane) : State := { s with panes := x }
def setWriter (s : State) (x : Writer) : State := { s with writer := x }
def setZones (s : State) (x : Table Zone 96) : State := { s with zones := x }
def setEngine (s : State) (x : Engine) : State := { s with engine := x }
def setModules (s : State) (x : ModuleInterface) : State := { s with modules := x }
def setReservoir (s : State) (x : Reservoir) : State := { s with reservoir := x }
def setHealth (s : State) (x : Health) : State := { s with health := x }
def setStore (s : State) (x : Store) : State := { s with store := x }
def setSettings (s : State) (x : Settings) : State := { s with settings := x }
def setPorts (s : State) (x : Ports) : State := { s with ports := x }

end State

/-! ### Values after reset -/

/-- All 40 cells lowered (00, Conventions). -/
def blankContent : Content := Table.fill 0

def blankImage : Image := Table.fill blankContent

/-- RAISE_TABLE's default (R71). -/
def defaultRaiseTable : Table WidthClass 16 :=
  ⟨[.short, .normal, .normal, .normal, .normal, .normal, .long, .long,
    .normal, .normal, .normal, .normal, .normal, .normal, .long, .long], rfl⟩

/-- LOWER_TABLE's default (R71). -/
def defaultLowerTable : Table WidthClass 16 :=
  ⟨[.long, .long, .normal, .normal, .normal, .normal, .short, .short,
    .long, .long, .normal, .normal, .normal, .normal, .short, .short], rfl⟩

/-- The default settings (R171). -/
def defaultSettings : Settings where
  baseRaiseUs := 900
  baseLowerUs := 700
  classStepPct := 12
  trimStepUs := 8
  retryMax := 2
  verify := true
  guard := true
  deferMs := 3000
  qFloor := 320
  qReady := 480
  chargerIdleMs := 30000
  auditMs := 2000
  touchNotices := false
  resetPolicy := .hold
  raiseTable := defaultRaiseTable
  lowerTable := defaultLowerTable

/-- The health records of a DEFAULTED load: no entries, trims 0, wear 0 (R151). -/
def blankHealth : Health where
  faultMap := []
  trims := Table.fill 0
  wear := Table.fill 0

def clearFlags : StickyFlags := ⟨false, false, false, false⟩

/-- A port after power-on, after a soft reset, and (the patron port) after a gain of presence
(R43, R155). -/
def freshPort : Port where
  receiver := .hunt
  frames := []
  queue := []
  sending := none
  flags := clearFlags
  lastRefusal := .noReason

/-- The pane table after power-on and soft reset: pane 0, lines 0 to 23, STATION (R33). -/
def initialPanes : List Pane := [⟨0, 0, 23, .station⟩]

/-- The refresh engine before the sweep (R32): no refresh, generation 0, queue, stale zone set, round
state and return-sense list empty, audit position 0, no interval, SENSING. -/
def initialEngine : Engine where
  state := .sensing
  generation := 0
  refresh := none
  queue := []
  current := none
  cancelled := none
  stale := Table.fill false
  auditPosition := 0
  auditInterval := none
  returnList := []
  sweepWaiting := Table.fill false

/-- The reservoir after power-on and soft reset (R103). -/
def initialReservoir : Reservoir := ⟨0, .off, none⟩

def initialWriter : Writer := ⟨Table.fill false, false⟩

/-- A module position before it is called, and one that does not answer (R106; log entry 6). -/
def absentModule : ModuleRecord := ⟨.absent, none, none⟩

/-- A board in the stage given, with everything that does not survive without power at its initial
value. The retained record, the presence line and the zone readings are the surroundings' (R148, R43,
R49). -/
def State.board (stage : Stage) (stored : Stored) (presence : Bool) (zones : Table Zone 96)
    (pending : List Instr) : State where
  pending := pending
  stage := stage
  page := ⟨blankImage, blankImage, blankImage, Table.fill false, Table.fill false⟩
  panes := initialPanes
  writer := initialWriter
  zones := zones
  engine := initialEngine
  modules := ⟨Table.fill absentModule, Table.fill false, none⟩
  reservoir := initialReservoir
  health := blankHealth
  store := ⟨stored, none, .defaulted⟩
  settings := defaultSettings
  ports := ⟨freshPort, freshPort, presence, none⟩

/-- Right after power has been applied to a new board with no patron device plugged in and no finger on
the page: the record load is in progress (R151; log entry 5). -/
def State.reset : State :=
  State.board .loadingPowerOn .blank false (Table.fill ⟨.clear, false⟩) []

end Sys2Proof.Machine
end

