-- ==== Sys2Proof/Machine/Geometry.lean ====
section
/-!
DEFINITION. The numbering of the page (R1): lines, cells, dots, strips, positions, zones, banks, modules,
and the content of a cell byte.
-/

namespace Sys2Proof.Machine

/-! ### Lines, modules, zones, banks -/

/-- All lines in ascending order. -/
def allLines : List Line := List.finRange 24

/-- Module m holds lines 3m, 3m + 1 and 3m + 2 (R1). -/
def moduleOf (l : Line) : ModuleId := ⟨l.val / 3, by omega⟩

/-- The three lines of a module in ascending order. -/
def linesOf (m : ModuleId) : List Line :=
  [⟨3 * m.val, by omega⟩, ⟨3 * m.val + 1, by omega⟩, ⟨3 * m.val + 2, by omega⟩]

/-- The line after this one, after 23 wrapping to 0 (R30). -/
def nextLine (l : Line) : Line := ⟨(l.val + 1) % 24, by omega⟩

/-- Zone id 4 × line + quarter, the quarter being the whole part of cell ÷ 10 (R1, R49). -/
def zoneOf (l : Line) (c : Cell) : ZoneId := ⟨4 * l.val + c.val / 10, by omega⟩

/-- The line of a zone. -/
def zoneLine (z : ZoneId) : Line := ⟨z.val / 4, by omega⟩

/-- The four zones of a line in ascending order. -/
def zonesOf (l : Line) : List ZoneId :=
  [⟨4 * l.val, by omega⟩, ⟨4 * l.val + 1, by omega⟩, ⟨4 * l.val + 2, by omega⟩,
   ⟨4 * l.val + 3, by omega⟩]

/-- Bank id 2 × line, plus 1 for cells 20 to 39 (R1, R75). -/
def bankOf (l : Line) (c : Cell) : BankId := ⟨2 * l.val + c.val / 20, by omega⟩

/-- The bank of cells 0 to 19 of a line (R142). -/
def firstBank (l : Line) : BankId := ⟨2 * l.val, by omega⟩

/-- The bank of cells 20 to 39 of a line (R142). -/
def secondBank (l : Line) : BankId := ⟨2 * l.val + 1, by omega⟩

/-- Cell index 40 × line + cell (R1). -/
def cellIndex (l : Line) (c : Cell) : Fin 960 := ⟨40 * l.val + c.val, by omega⟩

/-! ### Pins of a line -/

/-- All pins of a line in the order of the walk: strip by strip, position by position (R87). -/
def allPins : List LinePin := List.finRange 320

/-- Strip of a pin, 0 to 3 (R1). -/
def stripOf (p : LinePin) : Nat := p.val / 80

/-- Strip position of a pin, 0 to 79 (R1). -/
def positionOf (p : LinePin) : Nat := p.val % 80

/-- Cell of a pin: a cell takes two positions of each strip (R1). -/
def cellOf (p : LinePin) : Cell := ⟨p.val % 80 / 2, by omega⟩

/-- Dot of a pin, as its bit number. Strips 0, 1 and 2 hold dots 1, 2, 3 at even positions and 4, 5, 6
at odd ones; strip 3 holds dots 7 and 8 (R1). -/
def dotOf (p : LinePin) : Dot :=
  if p.val / 80 < 3 then ⟨(p.val / 80 + 3 * (p.val % 2)) % 8, by omega⟩
  else ⟨6 + p.val % 2, by omega⟩

/-- The pin of a cell and dot: the other way round. -/
def pinAt (c : Cell) (d : Dot) : LinePin :=
  if d.val < 3 then ⟨(80 * d.val + 2 * c.val) % 320, by omega⟩
  else if d.val < 6 then ⟨(80 * (d.val - 3) + 2 * c.val + 1) % 320, by omega⟩
  else ⟨(240 + 2 * c.val + (d.val - 6)) % 320, by omega⟩

/-- All pins of a line in ascending cell order, and within a cell in ascending dot order (R131). -/
def pinsByCell : List LinePin :=
  (List.finRange 40).flatMap fun c => (List.finRange 8).map fun d => pinAt c d

/-- Two pins of one line are adjacent when they lie in the same strip at positions p and p + 1 (R1). -/
def adjacent (p q : LinePin) : Bool :=
  stripOf p == stripOf q &&
    (positionOf p + 1 == positionOf q || positionOf q + 1 == positionOf p)

/-- The pin `k` places up the strip, if the strip has one (R68). -/
def pinUp (p : LinePin) (k : Nat) : Option LinePin :=
  if h : p.val % 80 + k < 80 then some ⟨p.val + k, by omega⟩ else none

/-- The pin `k` places down the strip, if the strip has one (R68). -/
def pinDown (p : LinePin) (k : Nat) : Option LinePin :=
  if k ≤ p.val % 80 then some ⟨p.val - k, by omega⟩ else none

/-- Zone of a pin of line `l` (R49). -/
def pinZone (l : Line) (p : LinePin) : ZoneId := zoneOf l (cellOf p)

/-- Bank of a pin of line `l` (R75). -/
def pinBank (l : Line) (p : LinePin) : BankId := bankOf l (cellOf p)

/-! ### Cell bytes -/

/-- The byte whose bit d is `f d`. -/
def byteOf (f : Dot → Bool) : Byte :=
  BitVec.ofBoolListLE ((List.finRange 8).map f)

/-- State of a pin in a line's content: raised is true (R1). -/
def pinState (c : Content) (p : LinePin) : Bool := (c.get (cellOf p)).getLsbD (dotOf p).val

/-- The content in which every pin has the state `f` gives it. -/
def contentOf (f : LinePin → Bool) : Content :=
  Table.tab fun c => byteOf fun d => f (pinAt c d)

end Sys2Proof.Machine
end

