-- ==== Sys2Proof/Machine/Operands.lean ====
section
/-!
DEFINITION. Frames and payloads: the check value (R157), the codes and layouts of R165 and R181, the
payload lengths a request allows (R164), and the reading of operands from a request's payload bytes.
-/

namespace Sys2Proof.Machine

/-! ### Numbers as bytes, high byte first (R156) -/

def byte1 (n : Nat) : Byte := BitVec.ofNat 8 n
def bytes2 (n : Nat) : List Byte := [byte1 (n / 256), byte1 n]
def bytes4 (n : Nat) : List Byte :=
  [byte1 (n / 16777216), byte1 (n / 65536), byte1 (n / 256), byte1 n]

/-- A signed count as an 8-bit two's complement value (R181). -/
def signedByte (t : Int) : Byte := BitVec.ofInt 8 t

/-- A yes/no field (R181). -/
def flagByte (b : Bool) : Byte := if b then 1 else 0

/-- A count sent in 2 bytes of a notice: one that exceeds them is sent as 65535 (R175). -/
def count2 (n : Nat) : List Byte := bytes2 (min n 65535)

/-- A byte whose bit i is `f i`. -/
def maskByte (f : Fin 8 → Bool) : Byte := byteOf f

/-! ### Check value (R157) -/

/-- One shift of the CRC register. -/
def crcShift (r : BitVec 16) : BitVec 16 :=
  if r.msb then (r <<< 1) ^^^ 0x1021#16 else r <<< 1

/-- `k` shifts of the CRC register. -/
def crcShifts : Nat → BitVec 16 → BitVec 16
  | 0, r => r
  | k + 1, r => crcShifts k (crcShift r)

/-- One byte into the CRC register: combined into the upper eight bits, then eight shifts. -/
def crcByte (r : BitVec 16) (b : Byte) : BitVec 16 :=
  crcShifts 8 (r ^^^ (b.setWidth 16 <<< 8))

/-- The check value of a byte sequence. -/
def crcOf (bytes : List Byte) : BitVec 16 := bytes.foldl crcByte 0xFFFF#16

/-- The check value of a frame: over length, kind, tag and payload (R157). -/
def frameCrc (kind tag : Byte) (payload : List Byte) : BitVec 16 :=
  crcOf (byte1 payload.length :: kind :: tag :: payload)

/-- A frame with its check value. -/
def makeFrame (kind tag : Byte) (payload : List Byte) : Frame :=
  ⟨kind, tag, payload, frameCrc kind tag payload⟩

/-- The bytes of a frame on a link (R156). -/
def frameBytes (f : Frame) : List Byte :=
  0xC3 :: byte1 f.payload.length :: f.kind :: f.tag :: f.payload ++ bytes2 f.crc.toNat

/-- Bytes of a frame, from its start byte to its last CRC byte (R156, R161). -/
def frameSize (f : Frame) : Nat := f.payload.length + 6

/-! ### Kinds (R165) -/

/-- The request kinds of the message table. -/
inductive RequestKind where
  | identify | status | get | set | writeCells | fillLines | show_ | cancel | readImage | paneList
  | paneSplit | paneMerge | paneGrant | faultList | faultClear | trimList | wearRead | recordCommit
  | moduleReset | reset
  deriving DecidableEq, Repr

/-- The message table's code of a request kind (R165). -/
def kindCode : RequestKind → Byte
  | .identify => 0x01
  | .status => 0x02
  | .get => 0x03
  | .set => 0x04
  | .writeCells => 0x05
  | .fillLines => 0x06
  | .show_ => 0x07
  | .cancel => 0x08
  | .readImage => 0x09
  | .paneList => 0x0A
  | .paneSplit => 0x0B
  | .paneMerge => 0x0C
  | .paneGrant => 0x0D
  | .faultList => 0x0E
  | .faultClear => 0x0F
  | .trimList => 0x10
  | .wearRead => 0x11
  | .recordCommit => 0x12
  | .moduleReset => 0x13
  | .reset => 0x14

/-- All request kinds. -/
def requestKinds : List RequestKind :=
  [.identify, .status, .get, .set, .writeCells, .fillLines, .show_, .cancel, .readImage, .paneList,
   .paneSplit, .paneMerge, .paneGrant, .faultList, .faultClear, .trimList, .wearRead, .recordCommit,
   .moduleReset, .reset]

/-- A kind byte is a request kind of the message table (R163, check 1). -/
def isRequestKind (k : Byte) : Bool := requestKinds.any fun r => kindCode r == k

/-- The kind byte of a reply that accepts: the request's with its top bit set (R163, R165). -/
def replyCode (k : RequestKind) : Byte := kindCode k + 0x80

/-- Kind of REFUSED (R165). -/
def refusedCode : Byte := 0xFF

/-- Requests that only STATION may send (R163, check 2; R165). PANE_GRANT has checks of its own. -/
def stationOnly : RequestKind → Bool
  | .set | .paneSplit | .paneMerge | .faultClear | .recordCommit | .moduleReset | .reset => true
  | .identify | .status | .get | .writeCells | .fillLines | .show_ | .cancel | .readImage | .paneList
  | .paneGrant | .faultList | .trimList | .wearRead => false

/-- The payload lengths a kind allows at the screening (R164). -/
def lengthAllowed (k : RequestKind) (n : Nat) : Bool :=
  match k with
  | .identify | .status | .paneList | .trimList | .recordCommit | .reset => n == 0
  | .get | .paneMerge | .faultList | .moduleReset => n == 1
  | .readImage | .paneSplit | .paneGrant => n == 2
  | .fillLines | .wearRead => n == 3
  | .set => n == 5
  | .show_ | .cancel => n == 0 || n == 1
  | .faultClear => n == 0 || n == 3
  | .writeCells => decide (3 ≤ n)

/-! ### Codes (R181) -/

def ownerCode : Identity → Byte
  | .station => 0
  | .patron => 1
  | .localWriter => 2

def ownerOf (b : Byte) : Option Identity :=
  if b = 0 then some .station else if b = 1 then some .patron
  else if b = 2 then some .localWriter else none

def classCode : WidthClass → Nat
  | .short => 0
  | .normal => 1
  | .long => 2

def classOf (n : Nat) : Option WidthClass :=
  if n = 0 then some .short else if n = 1 then some .normal
  else if n = 2 then some .long else none

def engineCode : EngineState → Byte
  | .idle => 0
  | .sensing => 1
  | .charging => 2
  | .striking => 3
  | .deferred => 4
  | .held => 5

def chargerCode : ChargerState → Byte
  | .off => 0
  | .charging => 1
  | .full => 2

def moduleCode : ModuleState → Byte
  | .absent => 0
  | .starting => 1
  | .ready => 2
  | .hot => 3
  | .faulted => 4

def outcomeCode : CloseOutcome → Byte
  | .complete => 0
  | .partialWork => 1
  | .cancelled => 2
  | .superseded => 3

def faultCode : FaultKind → Byte
  | .stuckRaised => 0
  | .stuckLowered => 1

def recordStateCode : RecordState → Byte
  | .loaded => 0
  | .defaulted => 1

def touchCode : TouchEvent → Byte
  | .touched => 0
  | .released => 1

def reasonCode : Reason → Byte
  | .noReason => 0
  | .unknownKind => 1
  | .badLength => 2
  | .outOfRange => 3
  | .notPermitted => 4
  | .busy => 5
  | .notReady => 6
  | .panesFull => 7
  | .panesMismatch => 8

/-- A dot as it is numbered on the page, 1 to 8. -/
def dotNumber (d : Dot) : Byte := byte1 (d.val + 1)

/-- The sticky flags byte of STATUS: DRIVE_LIMIT in bit 0, LINK_ERROR in bit 1, NOTICES_LOST in bit 2,
FAULTMAP_FULL in bit 3 (R181). -/
def flagsByte (f : StickyFlags) : Byte :=
  byteOf fun i =>
    match i.val with
    | 0 => f.driveLimit
    | 1 => f.linkError
    | 2 => f.noticesLost
    | 3 => f.faultmapFull
    | _ => false

/-! ### Payload layouts (R181) -/

def paneBytes (p : Pane) : List Byte :=
  [byte1 p.id.val, byte1 p.first.val, byte1 p.last.val, ownerCode p.owner]

def faultBytes (e : FaultEntry) : List Byte :=
  [byte1 e.line.val, byte1 e.cell.val, dotNumber e.dot, faultCode e.kind] ++ bytes2 e.generation.toNat

def statusBytes (r : StatusReport) : List Byte :=
  [flagByte r.accepting, engineCode r.engine, flagByte r.refreshOpen] ++ bytes2 r.generation.toNat ++
    [byte1 r.queueLength, byte1 r.staleZones] ++ bytes2 r.q ++ bytes2 r.v ++ [chargerCode r.charger] ++
    r.modules.cells.map moduleCode ++
    [byte1 r.faultEntries, reasonCode r.lastRefusal, flagsByte r.flags]

def identifyBytes (present : Table Bool 8) (rs : RecordState) : List Byte :=
  Config.vendor ++ Config.family ++ Config.part ++
    [Config.designRevision, 24, 40, 8, maskByte present.get, recordStateCode rs,
     byte1 Config.paneCapacity, byte1 Config.faultMapCapacity, byte1 Config.strokePinLimit,
     byte1 Config.noticeCapacity] ++
    bytes2 Config.receiveBuffer ++ bytes2 Config.reservoirCapacity

/-- The kind byte of a reply (R165). -/
def replyKind : Reply → Byte
  | .identify _ _ => replyCode .identify
  | .status _ => replyCode .status
  | .settingValue _ _ => replyCode .get
  | .settingTable _ _ => replyCode .get
  | .settingStored _ _ => replyCode .set
  | .cellsWritten _ _ => replyCode .writeCells
  | .linesFilled _ _ => replyCode .fillLines
  | .shown _ _ _ => replyCode .show_
  | .cancelled _ _ _ => replyCode .cancel
  | .image _ _ _ => replyCode .readImage
  | .panes _ => replyCode .paneList
  | .paneSplit _ => replyCode .paneSplit
  | .paneMerged _ _ => replyCode .paneMerge
  | .paneGranted _ _ => replyCode .paneGrant
  | .faults _ _ _ => replyCode .faultList
  | .faultsCleared _ _ => replyCode .faultClear
  | .trims _ => replyCode .trimList
  | .wear _ _ => replyCode .wearRead
  | .recordCommit => replyCode .recordCommit
  | .moduleReset _ _ => replyCode .moduleReset
  | .reset => replyCode .reset
  | .refused _ _ => refusedCode

/-- The payload of a reply. -/
def replyPayload : Reply → List Byte
  | .identify present rs => identifyBytes present rs
  | .status r => statusBytes r
  | .settingValue id v => byte1 id :: bytes4 v
  | .settingTable id t => byte1 id :: t.cells.map fun c => byte1 (classCode c)
  | .settingStored id v => byte1 id :: bytes4 v
  | .cellsWritten w k => bytes2 w ++ bytes2 k
  | .linesFilled w k => bytes2 w ++ bytes2 k
  | .shown g q u => bytes2 g.toNat ++ [byte1 q, byte1 u]
  | .cancelled g l z => bytes2 g.toNat ++ [byte1 l, byte1 z]
  | .image code l c => [byte1 code, byte1 l.val] ++ c.cells
  | .panes t => byte1 t.length :: t.flatMap paneBytes
  | .paneSplit id => [byte1 id.val]
  | .paneMerged id l => [byte1 id.val, byte1 l.val]
  | .paneGranted id o => [byte1 id.val, ownerCode o]
  | .faults n start es => [byte1 n, byte1 start] ++ es.flatMap faultBytes
  | .faultsCleared r l => [byte1 r, byte1 l]
  | .trims t => t.cells.map signedByte
  | .wear first cs => bytes2 first ++ [byte1 cs.length] ++ cs.flatMap bytes4
  | .recordCommit => []
  | .moduleReset m st => [byte1 m.val, moduleCode st]
  | .reset => []
  | .refused k r => [k, reasonCode r]

/-- The kind byte of a notice (R165). -/
def noticeKind : Notice → Byte
  | .refreshClosed _ => 0x40
  | .faultRecorded _ _ _ _ => 0x41
  | .moduleChanged _ _ => 0x42
  | .touch _ _ => 0x43
  | .recordWritten => 0x44

/-- The payload of a notice. -/
def noticePayload : Notice → List Byte
  | .refreshClosed r =>
      bytes2 r.generation.toNat ++ [outcomeCode r.outcome] ++ count2 r.linesDone ++
        [byte1 r.staleZones, byte1 r.unsettled, byte1 r.unavailable] ++ count2 r.newFaults ++
        count2 r.clampCount
  | .faultRecorded l c d k => [byte1 l.val, byte1 c.val, dotNumber d, faultCode k]
  | .moduleChanged m st => [byte1 m.val, moduleCode st]
  | .touch z e => [byte1 z.val, touchCode e]
  | .recordWritten => []

/-- The frame of a message: a reply echoes its request's tag, a notice has tag 0 (R156). -/
def messageFrame : Message → Frame
  | .reply tag r => makeFrame (replyKind r) tag (replyPayload r)
  | .notice n => makeFrame (noticeKind n) 0 (noticePayload n)

/-- A frame being sent is a reply when its kind has the top bit set (R163, R165). -/
def isReplyFrame (f : Frame) : Bool := f.kind.msb

/-! ### Operands of a request -/

def nat2 (hi lo : Byte) : Nat := 256 * hi.toNat + lo.toNat
def nat4 (a b c d : Byte) : Nat := 256 * (256 * (256 * a.toNat + b.toNat) + c.toNat) + d.toNat

def lineOf (b : Byte) : Option Line := if h : b.toNat < 24 then some ⟨b.toNat, h⟩ else none
def cellOfByte (b : Byte) : Option Cell := if h : b.toNat < 40 then some ⟨b.toNat, h⟩ else none
/-- Dots are numbered from 1 to 8 on the links. -/
def dotOfByte (b : Byte) : Option Dot :=
  if h : 1 ≤ b.toNat ∧ b.toNat ≤ 8 then some ⟨b.toNat - 1, by omega⟩ else none
def moduleOfByte (b : Byte) : Option ModuleId :=
  if h : b.toNat < 8 then some ⟨b.toNat, h⟩ else none

end Sys2Proof.Machine
end

