-- ==== Sys2Proof/Machine/Flags.lean ====
section
/-!
DEFINITION. The ports' side of every event: transmit queues and the notice capacity (R158, R175, R176),
sticky flags (R177), replies and refusals (R162, R163).
-/

namespace Sys2Proof.Machine

/-! ### One port -/

/-- FRAME_SEND_START: with no frame in sending and a queue that is not empty, the oldest message leaves
the queue and its frame begins to go out (R158). -/
def Port.startSend (p : Port) : Port :=
  match p.sending, p.queue with
  | none, m :: rest => { p with queue := rest, sending := some (messageFrame m) }
  | _, _ => p

def isNotice : Message → Bool
  | .notice _ => true
  | .reply _ _ => false

/-- Notices that wait in the transmit queue (R176). -/
def Port.waiting (p : Port) : Nat := p.queue.countP isNotice

/-- The queue without its oldest notice (R176). -/
def dropOldestNotice : List Message → List Message
  | [] => []
  | .notice _ :: rest => rest
  | .reply t r :: rest => .reply t r :: dropOldestNotice rest

/-- A notice is produced for the port: with 8 waiting, the oldest is lost and NOTICES_LOST set
(R176). -/
def Port.pushNotice (p : Port) (n : Notice) : Port :=
  let p :=
    if Config.noticeCapacity ≤ p.waiting then
      { p with queue := dropOldestNotice p.queue, flags := { p.flags with noticesLost := true } }
    else p
  Port.startSend { p with queue := p.queue ++ [.notice n] }

/-- A reply is placed in the transmit queue (R162). -/
def Port.pushReply (p : Port) (tag : Byte) (r : Reply) : Port :=
  Port.startSend { p with queue := p.queue ++ [.reply tag r] }

/-- A reply of this port has not been sent in full (R162). -/
def Port.replyOutstanding (p : Port) : Bool :=
  p.queue.any (fun m => !isNotice m) || p.sending.any isReplyFrame

/-- A RECORD_WRITTEN notice of this port has not been sent in full (R179). -/
def Port.writtenOutstanding (p : Port) : Bool :=
  p.queue.any (fun m => m == .notice .recordWritten) ||
    p.sending.any fun f => f.kind == noticeKind .recordWritten

/-! ### The two ports of the state -/

def linkIdentity : Link → Identity
  | .station => .station
  | .patron => .patron

/-- The port of a link. -/
def State.port (s : State) : Link → Port
  | .station => s.ports.station
  | .patron => s.ports.patron

/-- The state with the port of a link replaced. -/
def State.setPort (s : State) (l : Link) (p : Port) : State :=
  match l with
  | .station => s.setPorts { s.ports with station := p }
  | .patron => s.setPorts { s.ports with patron := p }

/-- The board has power (R151). -/
def State.powered (s : State) : Bool := s.stage != .unpowered

/-- A port is in service: the station port always, the patron port while presence is asserted (R155). -/
def State.inService (s : State) : Link → Bool
  | .station => s.powered
  | .patron => s.powered && s.ports.presence

/-- A notice is produced for a port; for a port out of service it is not produced (R155). -/
def State.notify (s : State) (l : Link) (n : Notice) : State :=
  if s.inService l then s.setPort l ((s.port l).pushNotice n) else s

/-- A reply is placed in the transmit queue of the link its request came on. -/
def State.sendReply (s : State) (l : Link) (tag : Byte) (r : Reply) : State :=
  s.setPort l ((s.port l).pushReply tag r)

/-- A refusal: a REFUSED frame, and the link's last refusal reason (R163). -/
def State.refuse (s : State) (l : Link) (f : Frame) (why : Reason) : State :=
  s.setPort l
    { (s.port l).pushReply f.tag (.refused f.kind why) with lastRefusal := why }

/-! ### Sticky flags (R177) -/

def setDriveLimit (p : Port) : Port := { p with flags := { p.flags with driveLimit := true } }
def setFaultmapFull (p : Port) : Port := { p with flags := { p.flags with faultmapFull := true } }
def setLinkError (p : Port) : Port := { p with flags := { p.flags with linkError := true } }

/-- A flag set in both ports: in the patron port's copy only while presence is asserted (R155, R177). -/
def State.flagBoth (s : State) (f : Port → Port) : State :=
  s.setPorts
    { s.ports with
      station := f s.ports.station
      patron := if s.ports.presence then f s.ports.patron else s.ports.patron }

end Sys2Proof.Machine
end

