-- ==== Sys2Proof/Machine/Ops.lean ====
section
/-!
DEFINITION. The named operations over the page store, the pane table, the contact guard, the fault map,
the module records and the tables: what the blocks ask of each other.
-/

namespace Sys2Proof.Machine

/-! ### Page store (R2 to R5) -/

def State.staging (s : State) (l : Line) : Content := s.page.staging.get l
def State.target (s : State) (l : Line) : Content := s.page.target.get l
def State.sensed (s : State) (l : Line) : Content := s.page.sensed.get l
def State.fresh (s : State) (l : Line) : Bool := s.page.fresh.get l

def State.putStaging (s : State) (l : Line) (c : Content) : State :=
  s.setPage { s.page with staging := s.page.staging.set l c }

def State.putTarget (s : State) (l : Line) (c : Content) : State :=
  s.setPage { s.page with target := s.page.target.set l c }

def State.putSensed (s : State) (l : Line) (c : Content) : State :=
  s.setPage { s.page with sensed := s.page.sensed.set l c }

/-- The line's fresh flag is cleared (R5). -/
def State.clearFresh (s : State) (l : Line) : State :=
  s.setPage { s.page with fresh := s.page.fresh.set l false }

/-- Every fresh flag is cleared (R5, R6). -/
def State.clearAllFresh (s : State) : State :=
  s.setPage { s.page with fresh := Table.fill false }

/-- A completed sense pass of the line: its 40 sensed bytes are replaced, its fresh flag is set, and no
stroke has been fired on it since (R4, R5, R112). -/
def State.writeSense (s : State) (l : Line) (c : Content) : State :=
  s.setPage
    { s.page with
      sensed := s.page.sensed.set l c
      fresh := s.page.fresh.set l true
      struck := s.page.struck.set l false }

/-- Staging, target and sensed of the line are set to all-lowered (R7). -/
def State.blankLine (s : State) (l : Line) : State :=
  s.setPage
    { s.page with
      staging := s.page.staging.set l blankContent
      target := s.page.target.set l blankContent
      sensed := s.page.sensed.set l blankContent }

def State.blankLines (s : State) (ls : List Line) : State := ls.foldl State.blankLine s

/-- A change of owner sets the staging of the lines to their target (R38). -/
def State.stagingToTarget (s : State) (ls : List Line) : State :=
  ls.foldl (fun s l => s.putStaging l (s.target l)) s

/-! ### Mismatch, fault map, guard (R8, R18, R54, R132) -/

/-- The fault map holds an entry for the pin. -/
def State.faultMapped (s : State) (l : Line) (p : LinePin) : Bool :=
  s.health.faultMap.any fun e => e.line == l && e.cell == cellOf p && e.dot == dotOf p

/-- The pin's state in sensed differs from its state in target (00, Terms). -/
def State.mismatched (s : State) (l : Line) (p : LinePin) : Bool :=
  pinState (s.target l) p != pinState (s.sensed l) p

/-- A mismatched pin that is not fault-mapped: undone work (R8, R133). -/
def State.undone (s : State) (l : Line) (p : LinePin) : Bool :=
  s.mismatched l p && !s.faultMapped l p

/-- The line has a mismatched pin that is not fault-mapped (R8, R29, R118). -/
def State.lineUndone (s : State) (l : Line) : Bool := allPins.any (s.undone l)

/-- A zone is guarded when GUARD is 1 and the zone is ARMING, TOUCHED or RELEASING (R54). -/
def State.guarded (s : State) (z : ZoneId) : Bool :=
  s.settings.guard && (s.zones.get z).state != .clear

/-- The line has a guarded zone (R30). -/
def State.lineGuarded (s : State) (l : Line) : Bool := (zonesOf l).any s.guarded

def State.putZone (s : State) (z : ZoneId) (x : Zone) : State := s.setZones (s.zones.set z x)

/-! ### Modules (R105) -/

def State.moduleState (s : State) (m : ModuleId) : ModuleState := (s.modules.records.get m).state

def State.lineModule (s : State) (l : Line) : ModuleState := s.moduleState (moduleOf l)

/-- READY or HOT (R105). -/
def inServiceState (x : ModuleState) : Bool := x == .ready || x == .hot

/-- A line is in service when its module is READY or HOT (R105). -/
def State.lineInService (s : State) (l : Line) : Bool := inServiceState (s.lineModule l)

def State.putModule (s : State) (m : ModuleId) (r : ModuleRecord) : State :=
  s.setModules { s.modules with records := s.modules.records.set m r }

def State.setOperation (s : State) (op : Option Operation) : State :=
  s.setModules { s.modules with operation := op }

/-- No stroke and no sense pass is in flight (R111). -/
def State.quiet (s : State) : Bool := s.modules.operation.isNone

/-- The line an operation is on. -/
def operationLine : Operation → Line
  | .stroke r => r.line
  | .sense _ l => l

/-- The module has an operation in flight (R111, R116). -/
def State.moduleBusy (s : State) (m : ModuleId) : Bool :=
  s.modules.operation.any fun op => moduleOf (operationLine op) == m

/-- A module's state changes after the sweep: MODULE_CHANGED goes to STATION (R119). -/
def State.moduleChanged (s : State) (m : ModuleId) (st : ModuleState) : State :=
  if s.stage = .running then s.notify .station (.moduleChanged m st) else s

/-! ### Pane table (R33, R34) -/

/-- The pane covers the line. -/
def paneHas (p : Pane) (l : Line) : Bool := decide (p.first ≤ l) && decide (l ≤ p.last)

/-- Lines of a pane in ascending order. -/
def paneLines (p : Pane) : List Line := allLines.filter (paneHas p)

/-- The record with the pane id given by a byte: none when the id is free or above 7. -/
def State.findPane (s : State) (id : Byte) : Option Pane :=
  s.panes.find? fun p => p.id.val == id.toNat

/-- The line lies in a pane of that owner (R34). -/
def State.owns (s : State) (who : Identity) (l : Line) : Bool :=
  s.panes.any fun p => p.owner == who && paneHas p l

/-- Lines of all panes of an owner in ascending order. -/
def State.ownedLines (s : State) (who : Identity) : List Line := allLines.filter (s.owns who)

/-- The record with pane id `id` replaced. -/
def replacePane (panes : List Pane) (id : Fin 8) (new : Pane) : List Pane :=
  panes.map fun p => if p.id = id then new else p

/-- The lowest pane id that no record holds (R35). -/
def lowestFreeId (panes : List Pane) : Option (Fin 8) :=
  (List.finRange 8).find? fun i => panes.all fun p => p.id != i

/-- A prompt of the status-line writer (R45); it is answered when its event has finished. -/
def State.promptWriter (s : State) : State := s.setWriter { s.writer with prompt := true }

def State.promptIf (s : State) (b : Bool) : State := if b then s.promptWriter else s

/-! ### Requesters (R13) -/

def onlyRequester : Identity → Requesters
  | .station => ⟨true, false, false⟩
  | .patron => ⟨false, true, false⟩
  | .localWriter => ⟨false, false, true⟩

def addRequester (r : Requesters) : Identity → Requesters
  | .station => { r with station := true }
  | .patron => { r with patron := true }
  | .localWriter => { r with localWriter := true }

/-! ### Intervals -/

/-- A timer started with a setting: with 0 none starts (R24, R30, R101). -/
def timerOf (ms : Nat) : Option Nat := if 0 < ms then some ms else none

/-! ### Settings (R171, R173) -/

def clampTo (lo hi v : Nat) : Nat := max lo (min hi v)

/-- The range of Q_READY depends on Q_FLOOR (R102). -/
def clampReady (qFloor v : Nat) : Nat := clampTo (qFloor + 16) 512 v

/-- Q_FLOOR and Q_READY are kept together: a Q_READY below Q_FLOOR + 16 is raised (R102). -/
def raiseReady (x : Settings) : Settings :=
  { x with qReady := max x.qReady (x.qFloor + 16) }

/-- Stored settings are taken as SET would take them, each clamped to its range, Q_FLOOR before Q_READY
(R102, R151). -/
def clampSettings (x : Settings) : Settings :=
  let floor := clampTo 64 448 x.qFloor
  { x with
    baseRaiseUs := clampTo 200 2000 x.baseRaiseUs
    baseLowerUs := clampTo 200 2000 x.baseLowerUs
    classStepPct := clampTo 0 30 x.classStepPct
    trimStepUs := clampTo 0 32 x.trimStepUs
    retryMax := clampTo 0 3 x.retryMax
    deferMs := clampTo 0 60000 x.deferMs
    qFloor := floor
    qReady := clampReady floor x.qReady
    chargerIdleMs := clampTo 0 600000 x.chargerIdleMs
    auditMs := clampTo 0 60000 x.auditMs }

/-! ### Retained record (R148) -/

def settingsNumbers (x : Settings) : List Int :=
  ([x.baseRaiseUs, x.baseLowerUs, x.classStepPct, x.trimStepUs, x.retryMax, x.verify.toNat,
   x.guard.toNat, x.deferMs, x.qFloor, x.qReady, x.chargerIdleMs, x.auditMs, x.touchNotices.toNat,
   (match x.resetPolicy with | .hold => 0 | .blank => 1)] : List Nat).map (fun n => (n : Int)) ++
    x.raiseTable.cells.map (fun c => (classCode c : Int)) ++
    x.lowerTable.cells.map (fun c => (classCode c : Int))

def faultNumbers (e : FaultEntry) : List Int :=
  ([e.line.val, e.cell.val, e.dot.val + 1, (match e.kind with | .stuckRaised => 0 | .stuckLowered => 1),
   e.generation.toNat] : List Nat).map fun n => (n : Int)

/-- The CRC-32 of a record over its four parts (R148). -/
def recordCrc (r : Record) : BitVec 32 :=
  Config.recordCrc32 (settingsNumbers r.settings) r.health.trims.cells
    ((r.health.faultMap.length : Int) :: r.health.faultMap.flatMap faultNumbers)
    (r.health.wear.cells.map fun n => (n : Int))

/-- The record a load takes: the stored one if it is valid, that is, whole with a check value that
agrees; none when the store is blank or its record fails the check (R148, R151). -/
def loadRecord : Stored → Option Record
  | .blank => none
  | .unfinished => none
  | .whole c => if c.crc = recordCrc c.record then some c.record else none

end Sys2Proof.Machine
end

