-- ==== Sys2Proof/Machine/Drive.lean ====
section
/-!
DEFINITION. The drive calculator: width and draw of one pin (R65 to R82).
-/

namespace Sys2Proof.Machine

/-- Reservoir voltage in units of 0.1 V: Q × 260 ÷ 512, the fraction discarded (R74, R97). -/
def voltageOf (q : Nat) : Nat := q * 260 / 512

/-- The temperature input: the reading clamped to −10 to +70 °C (R72). -/
def clampTemperature (t : Int) : Int := max (-10) (min 70 t)

/-- The adjustment of a class in percent (R70). -/
def classAdjust (c : WidthClass) (step : Nat) : Int :=
  match c with
  | .short => -(step : Int)
  | .normal => 0
  | .long => step

/-- N of R76. `attempt` is k, `temperature` is T′, `adjust` is a. -/
def numerator (base : Nat) (adjust temperature : Int) (attempt : Nat) : Int :=
  base * (100 + adjust) * (1000 + 4 * (temperature - 25)) * (100 + 25 * attempt) * 240

/-- D of R76. -/
def denominator (v : Nat) : Int := 10000000 * v

/-- W0: N ÷ D to the nearest whole microsecond, halves up (R77). -/
def roundedWidth (n d : Int) : Int := (2 * n + d) / (2 * d)

/-- W: held within 150 to 3000 µs (R79). -/
def clampWidth (w : Int) : Int := max Config.widthLeast (min Config.widthGreatest w)

/-- The draw of a width in charge units: W ÷ 400 rounded up (R81). -/
def drawOf (w : Nat) : Nat := (w + 399) / 400

/-- What the calculator answers for one pin. -/
structure Drive where
  width : Nat
  draw : Nat
  clamped : Bool
  deriving DecidableEq, Repr

/-- The inputs of one computation (R66). -/
structure DriveInput where
  base : Nat
  widthClass : WidthClass
  classStep : Nat
  reading : Int
  attempt : Nat
  q : Nat
  trim : Int
  trimStep : Nat
  deriving DecidableEq, Repr

/-- W1: the rounded width plus trim × trim step (R77, R78). -/
def trimmedWidth (i : DriveInput) : Int :=
  roundedWidth
      (numerator i.base (classAdjust i.widthClass i.classStep) (clampTemperature i.reading) i.attempt)
      (denominator (voltageOf i.q))
    + i.trim * i.trimStep

/-- One computation: width, draw, and whether R79 changed the width (R65, R79, R81). -/
def computeDrive (i : DriveInput) : Drive :=
  let w1 := trimmedWidth i
  let w := (clampWidth w1).toNat
  ⟨w, drawOf w, w1 != clampWidth w1⟩

/-- A neighbour's expected state: its target if it has been driven since the line's last sense pass or is
already in the present stroke, else its sensed state; a position off the strip counts as lowered
(R68, R69). -/
def State.expectedState (s : State) (c : Current) (taken : List LinePin) : Option LinePin → Bool
  | none => false
  | some n =>
    if (c.round.pins.get n).drivenSinceSense || taken.contains n then pinState (s.target c.line) n
    else pinState (s.sensed c.line) n

/-- The pattern index 8 × L2 + 4 × L1 + 2 × R2 + R3 (R68). -/
def State.patternIndex (s : State) (c : Current) (taken : List LinePin) (p : LinePin) : Fin 16 :=
  ⟨(8 * (s.expectedState c taken (pinDown p 2)).toNat + 4 * (s.expectedState c taken (pinDown p 1)).toNat
      + 2 * (s.expectedState c taken (pinUp p 1)).toNat + (s.expectedState c taken (pinUp p 2)).toNat) % 16,
    by omega⟩

/-- Base width of a direction (R67). -/
def Settings.base (x : Settings) : Direction → Nat
  | .lower => x.baseLowerUs
  | .raise => x.baseRaiseUs

/-- Class table of a direction (R67). -/
def Settings.classTable (x : Settings) : Direction → Table WidthClass 16
  | .lower => x.lowerTable
  | .raise => x.raiseTable

/-- The reading the calculator finds for a module: the held one. A module without one is ABSENT and is
never driven (R105; log entry 6). -/
def State.heldReading (s : State) (m : ModuleId) : Int :=
  (s.modules.records.get m).temperature.getD 25

/-- The inputs for a pin as they stand at the packing event (R65, R66, R82). -/
def State.driveInput (s : State) (c : Current) (taken : List LinePin) (p : LinePin) : DriveInput where
  base := s.settings.base c.round.phase
  widthClass := (s.settings.classTable c.round.phase).get (s.patternIndex c taken p)
  classStep := s.settings.classStepPct
  reading := s.heldReading (moduleOf c.line)
  attempt := (c.round.pins.get p).attempts
  q := s.reservoir.q
  trim := s.health.trims.get (pinBank c.line p)
  trimStep := s.settings.trimStepUs

/-- The drive calculator's answer for a pin (R65). -/
def State.pinDrive (s : State) (c : Current) (taken : List LinePin) (p : LinePin) : Drive :=
  computeDrive (s.driveInput c taken p)

end Sys2Proof.Machine
end

