-- ==== Sys2Proof/Machine/Stroke.lean ====
section
/-!
DEFINITION. The stroke former: candidates (R18), the walk (R87 to R89) and firing (R90 to R92).
-/

namespace Sys2Proof.Machine

/-! ### Round state (R17 "Working a line", R91, R122) -/

def freshPin : PinRound := ⟨0, false, false, false, false⟩

/-- The round state a line begins with: round 0, no pins driven, every attempt count 0 (R15). -/
def startRound : Round := ⟨0, .lower, Table.fill freshPin⟩

/-- A new phase begins with no pins driven in it. -/
def Round.enterPhase (r : Round) (d : Direction) : Round :=
  { r with phase := d, pins := Table.tab fun p => { r.pins.get p with drivenInPhase := false } }

/-- The next round begins with its LOWER phase, its round fired set and its retargeted set empty
(R19, R122). -/
def Round.next (r : Round) : Round where
  number := r.number + 1
  phase := .lower
  pins := Table.tab fun p =>
    { r.pins.get p with drivenInPhase := false, firedInRound := false, retargeted := false }

/-- A completed sense pass empties the set of pins driven since the last one (R19). -/
def Round.sensedNow (r : Round) : Round :=
  { r with pins := Table.tab fun p => { r.pins.get p with drivenSinceSense := false } }

/-- A stroke was fired in the round (R18): its round fired set is not empty. -/
def Round.fired (r : Round) : Bool := r.pins.cells.any (·.firedInRound)

/-- Firing: attempt count up by 1, and into the set of this phase, the set since the last sense, and the
round fired set (R90, R91, R122). -/
def Round.fire (r : Round) (pins : List LinePin) : Round :=
  { r with
    pins := Table.tab fun p =>
      let x := r.pins.get p
      if pins.contains p then
        { x with attempts := x.attempts + 1, drivenInPhase := true, drivenSinceSense := true
                 firedInRound := true }
      else x }

/-- A commit changed the target of the pins `changed`: attempt counts to 0, and into the retargeted set
(R12, R122). -/
def Round.retarget (r : Round) (changed : LinePin → Bool) : Round :=
  { r with
    pins := Table.tab fun p =>
      let x := r.pins.get p
      if changed p then { x with attempts := 0, retargeted := true } else x }

/-! ### Candidates (R18) -/

/-- The target state a phase drives to. -/
def phaseTarget : Direction → Bool
  | .lower => false
  | .raise => true

/-- A pin that the current phase may drive at this moment (R18, R56, R133). -/
def State.candidate (s : State) (c : Current) (p : LinePin) : Bool :=
  s.undone c.line p && !s.guarded (pinZone c.line p)
    && pinState (s.target c.line) p == phaseTarget c.round.phase
    && !(c.round.pins.get p).drivenInPhase

/-- The candidates in the order of the walk (R87). -/
def State.candidates (s : State) (c : Current) : List LinePin := allPins.filter (s.candidate c)

def State.hasCandidate (s : State) (c : Current) : Bool := allPins.any (s.candidate c)

/-! ### The walk (R87 to R89) -/

/-- A pin taken into the stroke being formed, with what the drive calculator answered for it. -/
structure Pick where
  pin : LinePin
  drive : Drive
  deriving DecidableEq, Repr

def picksDraw (ks : List Pick) : Nat := (ks.map (·.drive.draw)).sum

/-- The charge a stroke may take: Q − Q_FLOOR (R89). -/
def State.budget (s : State) : Nat := s.reservoir.q - s.settings.qFloor

/-- The walk meets one candidate: a pin adjacent to one already taken is skipped without being computed
(R88); another is computed and taken while the stroke holds fewer than 64 pins and the draw fits the
budget (R89). -/
def State.walkStep (s : State) (c : Current) (taken : List Pick) (p : LinePin) : List Pick :=
  if taken.any fun k => adjacent k.pin p then taken
  else
    let d := s.pinDrive c (taken.map (·.pin)) p
    if taken.length < Config.strokePinLimit ∧ picksDraw taken + d.draw ≤ s.budget then
      taken ++ [⟨p, d⟩]
    else taken

/-- The pins of the stroke formed now (R86, R87). -/
def State.formStroke (s : State) (c : Current) : List Pick :=
  (s.candidates c).foldl (s.walkStep c) []

/-! ### Firing (R90) -/

/-- The stroke record (R83). -/
def strokeRecord (c : Current) (ks : List Pick) : Stroke where
  line := c.line
  module := moduleOf c.line
  direction := c.round.phase
  pins := ks.map fun k => ⟨k.pin, k.drive.width, k.drive.draw⟩
  drawSum := picksDraw ks
  longest := (ks.map (·.drive.width)).foldl max 0

/-- Each firing raises the wear count of a cell by 1 for each of its pins in the stroke, up to the limit
(R92, R146). -/
def raiseWear (wear : Table Nat 960) (l : Line) (pins : List LinePin) : Table Nat 960 :=
  Table.tab fun i =>
    min Config.wearLimit (wear.get i + pins.countP fun p => cellIndex l (cellOf p) == i)

/-- Q falls by the draw; a charger that was FULL goes to CHARGING (R90, R98). -/
def Reservoir.give (r : Reservoir) (draw : Nat) : Reservoir :=
  { r with q := r.q - draw, charger := if r.charger = .full then .charging else r.charger }

/-- Widths of the stroke that R79 changed (R80). -/
def clampedPicks (ks : List Pick) : Nat := ks.countP (·.drive.clamped)

/-- Update of the refresh record, while one exists. -/
def State.updRefresh (s : State) (f : Refresh → Refresh) : State :=
  s.setEngine { s.engine with refresh := s.engine.refresh.map f }

/-- Clamps of the stroke: the clamp count rises by 1 for each, and DRIVE_LIMIT is set (R80). -/
def State.countClamps (s : State) (n : Nat) : State :=
  if n = 0 then s
  else (s.updRefresh fun r => { r with clampCount := r.clampCount + n }).flagBoth setDriveLimit

/-- Firing completes the packing event: the list of R90. -/
def State.fire (s : State) (c : Current) (ks : List Pick) : State :=
  let pins := ks.map (·.pin)
  let s := s.setReservoir (s.reservoir.give (picksDraw ks))
  let s := s.setPage { s.page with struck := s.page.struck.set c.line true }
  let s := s.setHealth { s.health with wear := raiseWear s.health.wear c.line pins }
  let s := s.countClamps (clampedPicks ks)
  let s := s.setOperation (some (.stroke (strokeRecord c ks)))
  s.setEngine
    { s.engine with state := .striking, current := some ⟨c.line, c.round.fire pins⟩ }

end Sys2Proof.Machine
end

