-- ==== Sys2Proof/Machine/Engine.lean ====
section
/-!
DEFINITION. The refresh engine: packing points, the finish of a line, the choice of the current line,
the close decision, the opening and merging of refreshes, catch-ups, return senses, and the status-line
writer, which acts when an event has finished (R9 to R32, R44 to R47, R84 to R86, R117).
-/

namespace Sys2Proof.Machine

/-! ### Small steps of the engine -/

def State.setEngineState (s : State) (x : EngineState) : State :=
  s.setEngine { s.engine with state := x }

/-- A sense pass is handed to the module of the line; the engine is in SENSING (R31, R112). -/
def State.startSense (s : State) (k : SenseKind) (l : Line) : State :=
  (s.setOperation (some (.sense k l))).setEngineState .sensing

/-- The first line of the return-sense list is sensed, if the list holds one (R117). -/
def State.startReturn (s : State) : State :=
  match s.engine.returnList with
  | [] => s
  | l :: _ => s.startSense .return l

/-- The engine becomes IDLE: the audit interval starts (R30), and a line waiting for its return sense
is sensed (R117). -/
def State.goIdle (s : State) : State :=
  (s.setEngine
    { s.engine with state := .idle, auditInterval := timerOf s.settings.auditMs }).startReturn

/-- The deadline starts if it is absent and the expired flag is clear, and DEFER_MS is above 0 (R24). -/
def Refresh.startDeadline (r : Refresh) (deferMs : Nat) : Refresh :=
  if r.deadline.isNone && !r.expired then { r with deadline := timerOf deferMs } else r

/-! ### Closing (R25, R26) -/

/-- The fields of REFRESH_CLOSED as they stand (R26). -/
def State.closeReport (s : State) (r : Refresh) (o : CloseOutcome) : CloseReport where
  generation := s.engine.generation
  outcome := o
  linesDone := r.linesDone
  staleZones := s.engine.stale.count
  unsettled := r.unsettled.count
  unavailable := r.unavailable.count
  newFaults := r.newFaults
  clampCount := r.clampCount

/-- REFRESH_CLOSED to each requester that has a link, but for the one excepted (R26, R27). -/
def State.sendClosed (s : State) (r : Refresh) (o : CloseOutcome) (except : Option Identity) : State :=
  let n := Notice.refreshClosed (s.closeReport r o)
  let s := if r.requesters.station && except != some .station then s.notify .station n else s
  if r.requesters.patron && except != some .patron then s.notify .patron n else s

/-- The refresh closes: the notices, then the record is discarded, the engine is IDLE, the idle interval
and the audit interval start, and the status-line writer is prompted (R26, R45, R101). -/
def State.closeRefresh (s : State) (r : Refresh) (o : CloseOutcome) (except : Option Identity) : State :=
  let s := s.sendClosed r o except
  let s := s.setEngine { s.engine with refresh := none }
  let s := s.setReservoir { s.reservoir with idle := timerOf s.settings.chargerIdleMs }
  s.promptWriter.goIdle

/-- The close decision, row by row; `canceller` is given when it is made at a CANCEL (R25, R27, R28). An
engine that becomes DEFERRED with lines in the return-sense list makes a return sense (R117). -/
def State.closeDecision (s : State) (canceller : Option Identity) : State :=
  match s.engine.refresh with
  | none => s
  | some r =>
    if s.engine.stale.count = 0 then
      if canceller.isSome then s.closeRefresh r .cancelled canceller
      else if r.unsettled.count = 0 ∧ r.unavailable.count = 0 then s.closeRefresh r .complete canceller
      else s.closeRefresh r .partialWork canceller
    else if r.expired then s.closeRefresh r .partialWork canceller
    else if s.settings.deferMs = 0 then s.closeRefresh r .partialWork canceller
    else
      ((s.updRefresh fun r => r.startDeadline s.settings.deferMs).setEngineState .deferred).startReturn

/-! ### The finish of a line (R20, R131 to R135, R44) -/

/-- An exhausted pin of the current line (R131). -/
def State.exhausted (s : State) (c : Current) (p : LinePin) : Bool :=
  s.undone c.line p && !s.guarded (pinZone c.line p)
    && decide (s.settings.retryMax + 1 ≤ (c.round.pins.get p).attempts)

/-- An exhausted pin is offered to the fault map: entered at the tail with its notice, or, with the map
full, FAULTMAP_FULL (R131, R132, R134, R135). -/
def State.offerPin (l : Line) (s : State) (p : LinePin) : State :=
  if s.health.faultMap.length < Config.faultMapCapacity then
    let kind := if pinState (s.target l) p then FaultKind.stuckLowered else FaultKind.stuckRaised
    let e : FaultEntry := ⟨l, cellOf p, dotOf p, kind, s.engine.generation⟩
    let s := s.setHealth { s.health with faultMap := s.health.faultMap ++ [e] }
    let s := s.updRefresh fun r => { r with newFaults := r.newFaults + 1 }
    s.notify .station (.faultRecorded l (cellOf p) (dotOf p) kind)
  else s.flagBoth setFaultmapFull

/-- The verify unit's search for exhausted pins, offered in cell and dot order (R131). -/
def State.recordFaults (s : State) (c : Current) : State :=
  (pinsByCell.filter (s.exhausted c)).foldl (State.offerPin c.line) s

/-- A zone of the line that is guarded and holds undone work (R20 step 2, R58). -/
def State.defersZone (s : State) (l : Line) (z : ZoneId) : Bool :=
  zoneLine z == l && s.guarded z && allPins.any fun p => pinZone l p == z && s.undone l p

/-- The line has undone work outside the zones that join the stale zone set (R20 step 3): undone work in
a zone that is not guarded, since a guarded zone with undone work joins. -/
def State.unsettledAt (s : State) (l : Line) : Bool :=
  allPins.any fun p => s.undone l p && !s.guarded (pinZone l p)

/-- Steps 2 to 4 of R20: the stale zone set, the unsettled line set with the last unsettled set (R44),
the deadline when a zone joins (R24), the queue and lines_done. -/
def State.leaveFinished (s : State) (l : Line) : State :=
  let unsettled := s.unsettledAt l
  let joins := (zonesOf l).any fun z => s.defersZone l z && !s.engine.stale.get z
  let stale : ZoneSet :=
    Table.tab fun z => if zoneLine z = l then s.defersZone l z else s.engine.stale.get z
  let finish (r : Refresh) : Refresh :=
    let r := if joins then r.startDeadline s.settings.deferMs else r
    { r with unsettled := r.unsettled.set l unsettled, linesDone := r.linesDone + 1 }
  let s := s.setWriter { s.writer with lastUnsettled := s.writer.lastUnsettled.set l unsettled }
  s.setEngine
    { s.engine with
      stale := stale
      refresh := s.engine.refresh.map finish
      queue := s.engine.queue.filter (· != l)
      current := none }

/-- The current line finishes; `search` says whether step 1 of R20 is made. -/
def State.finishLine (s : State) (c : Current) (search : Bool) : State :=
  (if search then s.recordFaults c else s).leaveFinished c.line

/-! ### Packing points (R84 to R86) -/

/-- The current line is suspended: its round state is discarded, it keeps its place in the queue, and it
is no longer fresh if a stroke has been fired on it since its last sense pass (R16, R110). -/
def State.suspend (s : State) (c : Current) : State :=
  let s := s.setEngine { s.engine with current := none }
  if s.page.struck.get c.line then s.clearFresh c.line else s

/-- With a candidate: the packing event when Q is at least Q_READY, else the wait in CHARGING (R84). -/
def State.packOrWait (s : State) (c : Current) : State :=
  if s.settings.qReady ≤ s.reservoir.q then s.fire c (s.formStroke c)
  else s.setEngine { s.engine with state := .charging, current := some c }

/-- The end of a RAISE phase: the verify sense, or the finish when VERIFY is 0 or no stroke was fired in
the round (R18, R19, R21, R84). The finish is searched for exhausted pins only with VERIFY at 1 and
after the last round (R129, R131, R140; log entries 11 and 12). The truth value says that the engine
chooses again. -/
def State.endRaise (s : State) (c : Current) : State × Bool :=
  if s.settings.verify && c.round.fired then
    ((s.setEngine { s.engine with current := some c }).startSense .verify c.line, false)
  else
    (s.finishLine c (s.settings.verify && decide (s.settings.retryMax ≤ c.round.number)), true)

/-- A packing point of the current line, with the ends of phases that follow it at once (R84). It is also
the packing event that ends a CHARGING wait, which reads everything afresh (R85, R86). The truth value
says that the engine chooses again. -/
def State.packingPoint (s : State) (c : Current) : State × Bool :=
  if s.lineModule c.line = .hot then (s.suspend c, true)
  else if s.hasCandidate c then (s.packOrWait c, false)
  else
    match c.round.phase with
    | .raise => s.endRaise c
    | .lower =>
      let c := { c with round := c.round.enterPhase .raise }
      if s.hasCandidate c then (s.packOrWait c, false) else s.endRaise c

/-! ### The choice of the current line (R15, R17, R117) -/

/-- The line the engine takes: the first in queue order whose module is READY (R15). -/
def State.nextReady (s : State) : Option Line :=
  s.engine.queue.find? fun l => s.lineModule l == .ready

/-- A line is taken as current line: a pre-sense if it is not fresh (R17), else round 0 at once. -/
def State.takeLine (s : State) (l : Line) : State × Bool :=
  let c : Current := ⟨l, startRound⟩
  if s.fresh l then s.packingPoint c
  else ((s.setEngine { s.engine with current := some c }).startSense .pre l, false)

/-- The engine chooses. Before choosing, waiting return senses are made (R117); with an empty queue the
close decision is made; with only HOT modules in the queue the engine is HELD (R15). A line taken fresh
may finish at once, and the engine chooses again: each time the queue is a line shorter, so `fuel`
above the queue's length is never used up. -/
def State.chooseLoop : Nat → State → State
  | 0, s => s
  | fuel + 1, s =>
    if !s.engine.returnList.isEmpty then s.startReturn
    else if s.engine.queue.isEmpty then s.closeDecision none
    else
      match s.nextReady with
      | none => s.setEngineState .held
      | some l =>
        let (s, again) := s.takeLine l
        if again then State.chooseLoop fuel s else s

def State.choose (s : State) : State := State.chooseLoop (s.engine.queue.length + 1) s

/-- What follows a packing point. -/
def State.andChoose (r : State × Bool) : State := if r.2 then r.1.choose else r.1

/-- The engine chooses if a refresh is open, nothing is in flight and no line is being processed; in
DEFERRED only when a line has reached the queue (R15, R16, R25). -/
def State.kick (s : State) : State :=
  if s.engine.refresh.isSome && s.quiet && s.engine.current.isNone then
    if s.engine.state = .deferred ∧ s.engine.queue = [] then s else s.choose
  else s

/-! ### The queue (R14) -/

/-- A line is appended: at the tail if its module is READY or HOT and it is not in the queue, and it
leaves the unavailable lines; otherwise it joins them (R13, R14). -/
def State.appendLine (s : State) (l : Line) : State :=
  if s.lineInService l then
    s.setEngine
      { s.engine with
        queue := if s.engine.queue.contains l then s.engine.queue else s.engine.queue ++ [l]
        refresh := s.engine.refresh.map fun r => { r with unavailable := r.unavailable.set l false } }
  else s.updRefresh fun r => { r with unavailable := r.unavailable.set l true }

def State.appendLines (s : State) (ls : List Line) : State := ls.foldl State.appendLine s

/-! ### Opening, merging, catching up (R10, R11, R29) -/

/-- The refresh record of a refresh that opens (R13). -/
def openRecord (who : Requesters) : Refresh where
  requesters := who
  deadline := none
  expired := false
  linesDone := 0
  newFaults := 0
  clampCount := 0
  unsettled := Table.fill false
  unavailable := Table.fill false

/-- A refresh opens: the charger starts if it is OFF and its idle interval is abandoned (R98, R101). -/
def Reservoir.refreshOpens (r : Reservoir) : Reservoir :=
  { r with
    q := if r.charger = .off then 0 else r.q
    charger := if r.charger = .off then .charging else r.charger
    idle := none }

/-- A refresh opens: the generation advances by 1 modulo 65536, the record is initialised, the charger is
told, the audit interval is abandoned, and the lines are appended (R10, R13). -/
def State.openRefresh (s : State) (who : Requesters) (ls : List Line) : State :=
  let s := s.setEngine
    { s.engine with
      generation := s.engine.generation + 1
      refresh := some (openRecord who)
      auditInterval := none }
  let s := s.setReservoir s.reservoir.refreshOpens
  s.appendLines ls

/-- A commit is merged into the open refresh (R11): SUPERSEDED, the generation, the sender, the counts,
the lines, the deadline. -/
def State.mergeRefresh (s : State) (r : Refresh) (who : Identity) (ls : List Line) : State :=
  let s := s.sendClosed r .superseded none
  let s := s.setEngine
    { s.engine with
      generation := s.engine.generation + 1
      refresh := some
        { r with
          requesters := addRequester r.requesters who
          linesDone := 0, newFaults := 0, clampCount := 0, expired := false } }
  let s := s.appendLines ls
  let deadline := if s.engine.stale.count = 0 then none else timerOf s.settings.deferMs
  s.updRefresh fun r => { r with deadline := deadline }

/-- The lines found dirty are handed to the engine: a refresh opens or the commit merges; with no dirty
line nothing is touched (R9, R10, R11). -/
def State.handLines (s : State) (who : Identity) (dirty : List Line) : State :=
  if dirty = [] then s
  else
    match s.engine.refresh with
    | none => (s.openRefresh (onlyRequester who) dirty).kick
    | some r => (s.mergeRefresh r who dirty).kick

/-- A catch-up for the lines named (R29), without the choice that may follow. -/
def State.catchUp (s : State) (ls : List Line) : State :=
  if s.engine.refresh.isSome then s.appendLines ls
  else if ls.any s.lineInService then s.openRefresh (onlyRequester .station) ls
  else s

/-! ### Commits (R8, R12, R28) -/

/-- One line is committed: staging is copied into target; if it is the current line, the pins whose
target state changed are retargeted (R12); a copy pending on it from a CANCEL is dropped (R28). -/
def State.commitLine (s : State) (l : Line) : State :=
  let old := s.target l
  let new := s.staging l
  let retarget (c : Current) : Current :=
    if c.line = l then
      { c with round := c.round.retarget fun p => pinState old p != pinState new p }
    else c
  let drop (w : CancelWork) : CancelWork := if w.line = l then { w with copyDue := false } else w
  (s.putTarget l new).setEngine
    { s.engine with
      current := s.engine.current.map retarget
      cancelled := s.engine.cancelled.map drop }

/-- A line is dirty if the copy changes its target, or if it then has undone work (R8). -/
def State.dirtyLine (s : State) (l : Line) : Bool :=
  s.target l != s.staging l ||
    allPins.any fun p =>
      pinState (s.staging l) p != pinState (s.sensed l) p && !s.faultMapped l p

/-- The dirty lines of a commit of the lines named, in the order given (R8). -/
def State.dirtyLines (s : State) (ls : List Line) : List Line := ls.filter s.dirtyLine

def State.commitLines (s : State) (ls : List Line) : State := ls.foldl State.commitLine s

/-- A whole commit of the lines named in the name of a writer (R8 to R11). -/
def State.commit (s : State) (who : Identity) (ls : List Line) : State :=
  (s.commitLines ls).handLines who (s.dirtyLines ls)

/-! ### CANCEL work in flight (R28) -/

/-- The work in flight of a CANCEL has ended: target is set to sensed if the copy is still due, and the
engine makes the close decision or chooses the next line (R28). A close leaves out the sender whose CANCEL
took the line (R27; log entry 33), also where a later SHOW of that sender has merged into the refresh (log
entry 35, the model's choice). -/
def State.endCancel (s : State) (w : CancelWork) : State :=
  let s := if w.copyDue then s.putTarget w.line (s.sensed w.line) else s
  let s := s.setEngine { s.engine with cancelled := none }
  if s.engine.queue = [] then s.closeDecision (some w.canceller) else s.choose

/-! ### Modules leaving service (R16, R107, R115) -/

/-- The lines of a module leave the queue, joining the unavailable lines, and the return-sense list; if
the current line is among them its round state is discarded (R16). -/
def State.dropModuleLines (s : State) (m : ModuleId) : State :=
  let here (l : Line) : Bool := moduleOf l == m
  let lost (r : Refresh) : Refresh :=
    { r with
      unavailable := Table.tab fun l =>
        r.unavailable.get l || (here l && s.engine.queue.contains l) }
  s.setEngine
    { s.engine with
      queue := s.engine.queue.filter fun l => !here l
      returnList := s.engine.returnList.filter fun l => !here l
      current := s.engine.current.filter fun c => !here c.line
      refresh := s.engine.refresh.map lost }

/-- The fresh flags of the module's three lines are cleared (R107, R115). -/
def State.clearModuleFresh (s : State) (m : ModuleId) : State :=
  (linesOf m).foldl State.clearFresh s

/-- A module enters STARTING, with its first reading (R107): MODULE_CHANGED after the sweep (R119). The
choice that may follow is the caller's. -/
def State.enterStarting (s : State) (m : ModuleId) (reading : Int) : State :=
  let s := s.putModule m ⟨.starting, some reading, some Config.selfTestMs⟩
  let s := s.clearModuleFresh m
  let s := s.moduleChanged m .starting
  s.dropModuleLines m

/-- A module enters FAULTED (R115): MODULE_CHANGED after the sweep. Its held temperature stays. The choice
that may follow is the caller's. -/
def State.enterFaulted (s : State) (m : ModuleId) : State :=
  let s := s.putModule m { s.modules.records.get m with state := .faulted, selfTest := none }
  let s := s.clearModuleFresh m
  let s := s.moduleChanged m .faulted
  s.dropModuleLines m

/-! ### Return senses (R117) -/

/-- After a return sense: the next line of the list is sensed; with the list empty the engine carries out
what it set aside, choosing if a refresh is open and going IDLE if none is (R117). A close that this
choice leads to is told to every requester, a canceller among them (log entry 32, the model's choice). -/
def State.continueReturn (s : State) : State :=
  if !s.engine.returnList.isEmpty then s.startReturn
  else if s.engine.refresh.isSome then s.choose
  else s.goIdle

/-- A line joins the return-sense list, which holds no line twice (R117). -/
def State.addReturn (s : State) (l : Line) : State :=
  if s.engine.returnList.contains l then s
  else s.setEngine { s.engine with returnList := s.engine.returnList ++ [l] }

/-- The list has gained lines: while the engine is IDLE, DEFERRED or HELD, and nothing is in flight, a
return sense is made at once (R117). -/
def State.kickReturn (s : State) : State :=
  if s.quiet && (s.engine.state == .idle || s.engine.state == .deferred || s.engine.state == .held) then
    s.startReturn
  else s

/-! ### The sweep (R6, R7) -/

/-- The sweep is over for every module: none is STARTING and no line waits (R6). -/
def State.sweepDone (s : State) : Bool :=
  s.engine.sweepWaiting.count == 0 &&
    (List.finRange 8).all fun m => s.moduleState m != .starting

/-- The lines the sweep's end sets: those of modules that ended STARTING in READY, which are now READY
or HOT (R7). -/
def State.sweptLines (s : State) : List Line := allLines.filter s.lineInService

/-- Sets staging and target of a line (R7). -/
def State.setBoth (s : State) (l : Line) (c : Content) : State := (s.putStaging l c).putTarget l c

/-- The line has a raised pin in sensed (R7). -/
def State.hasRaised (s : State) (l : Line) : Bool := (s.sensed l).cells.any (· != 0)

/-- The sweep completes: staging and target by RESET_POLICY, requests are accepted, and under BLANK
generation 1 opens with requesters {STATION} (R7). -/
def State.completeSweep (s : State) : State :=
  let lines := s.sweptLines
  let s := s.setStage .running
  match s.settings.resetPolicy with
  | .hold => (lines.foldl (fun s l => s.setBoth l (s.sensed l)) s).goIdle
  | .blank =>
    let raised := lines.filter s.hasRaised
    ((lines.foldl (fun s l => s.setBoth l blankContent) s).openRefresh (onlyRequester .station)
      raised).kick

/-- The sweep goes on: one sense pass at a time, the lowest-numbered waiting line first; it completes
when nothing is left (R6). -/
def State.continueSweep (s : State) : State :=
  if !s.quiet then s
  else
    match s.engine.sweepWaiting.members with
    | l :: _ =>
      (s.setEngine { s.engine with sweepWaiting := s.engine.sweepWaiting.set l false }).startSense
        .sweep l
    | [] => if s.sweepDone then s.completeSweep else s

/-- A module has gone FAULTED during the sweep: its lines wait no longer and their images are
all-lowered (R7, R114). -/
def State.sweepFaulted (s : State) (m : ModuleId) : State :=
  let s := s.setEngine
    { s.engine with
      sweepWaiting := Table.tab fun l => s.engine.sweepWaiting.get l && moduleOf l != m }
  s.blankLines (linesOf m)

/-! ### The status-line writer (R45 to R47) -/

/-- The status cell of line i: dots 3 and 6 for undone work, dots 7 and 8 for a fault map entry (R46). -/
def State.statusByte (s : State) (i : Line) : Byte :=
  let work := (zonesOf i).any s.engine.stale.get || s.writer.lastUnsettled.get i
  let fault := s.health.faultMap.any fun e => e.line == i
  (if work then 36#8 else 0#8) ||| (if fault then 192#8 else 0#8)

/-- The composed status line of a pane whose first line is `own` (R46). -/
def State.statusContent (s : State) (own : Line) : Content :=
  Table.tab fun c =>
    if h : c.val < 24 then
      if c.val = own.val then 0 else s.statusByte ⟨c.val, h⟩
    else 0

/-- What the writer composes for line l: the status content on the first line of a LOCAL pane,
all-lowered on the others (R46). -/
def State.composed (s : State) (l : Line) : Content :=
  if s.panes.any fun p => p.owner == .localWriter && p.first == l then s.statusContent l
  else blankContent

/-- A recompute (R46, R47): if any line of LOCAL's panes differs from its staging, every line is written
and LOCAL commits. -/
def State.recompute (s : State) : State :=
  let lines := s.ownedLines .localWriter
  if lines.all fun l => s.staging l == s.composed l then s
  else
    let content := s.composed
    (lines.foldl (fun s l => s.putStaging l (content l)) s).commit .localWriter lines

/-- One answer to a prompt: with no refresh open and the sweep over, a recompute, which may close a refresh
and so prompt again; otherwise the prompt is dropped, since the close of the refresh prompts again (R45). -/
def State.answerPrompt (s : State) : State :=
  if s.writer.prompt then
    let s := s.setWriter { s.writer with prompt := false }
    if s.engine.refresh.isNone && s.stage == .running then s.recompute else s
  else s

/-- Answers one after the other until no prompt is raised, `fuel` of them at the most. -/
def State.answerPrompts : Nat → State → State
  | 0, s => s
  | fuel + 1, s => if s.writer.prompt then State.answerPrompts fuel s.answerPrompt else s

/-- The end of an event: its prompt is answered, and the prompts that its recomputes raise, until none is
(R45). A chain of prompts without an end is not run through: the event makes its own answer, and each further
answer is an event of its own, which a step with no command waiting makes (log entry 9). -/
def State.settle (s : State) : State :=
  let t := State.answerPrompts Config.recomputeLimit s
  if t.writer.prompt then s.answerPrompt else t

end Sys2Proof.Machine
end

