-- ==== Sys2Proof/Machine/GuardEvents.lean ====
section
/-!
DEFINITION. The contact guard's events: the debounce machine of each zone, touch and release events
(R49 to R53, R62 to R64), and the release as the refresh engine takes it (R23, R60).
-/

namespace Sys2Proof.Machine

open Host (Outcome)

/-- The contact guard has reached the zone sensors: they are read through their modules, so not before the
power-on load has ended (R64). -/
def State.zonesReached (s : State) : Bool :=
  match s.stage with
  | .unpowered | .loadingPowerOn => false
  | .loadingReset _ | .sweeping | .running => true

/-- The state a zone goes to when its reading becomes present (R50). -/
def onPresent : ZoneState → Option ZoneState
  | .clear => some .arming
  | .releasing => some .touched
  | .arming | .touched => none

/-- The state a zone goes to when its reading becomes absent (R50). -/
def onAbsent : ZoneState → Option ZoneState
  | .arming => some .clear
  | .touched => some .releasing
  | .clear | .releasing => none

/-- A change of a zone's reading to `present`, which moves a reached zone to the state `move` gives. A zone
of an ABSENT module reads absent throughout (R49); a reading cannot become what it is (R50). -/
def State.readZone (s : State) (z : ZoneId) (present : Bool) (move : ZoneState → Option ZoneState) :
    Outcome State Fault Refusal :=
  let zone := s.zones.get z
  if zone.present = present then .refused .cannotArise
  else if !s.zonesReached then .next (s.putZone z { zone with present := present })
  else if s.lineModule (zoneLine z) = .absent then .refused .cannotArise
  else
    match move zone.state with
    | none => .refused .cannotArise
    | some next => .next (s.putZone z ⟨next, present⟩)

/-- ZONE_READING_PRESENT (R50). -/
def execZoneReadingPresent (z : ZoneId) (s : State) : Outcome State Fault Refusal :=
  s.readZone z true onPresent

/-- ZONE_READING_ABSENT (R50). -/
def execZoneReadingAbsent (z : ZoneId) (s : State) : Outcome State Fault Refusal :=
  s.readZone z false onAbsent

/-- A TOUCH notice, when TOUCH_NOTICES is 1 and the sweep is over: to STATION, and to PATRON when the
zone's line lies in a pane of PATRON (R62, R63). -/
def State.touchNotice (s : State) (z : ZoneId) (e : TouchEvent) : State :=
  if s.settings.touchNotices && s.stage == .running then
    let s := s.notify .station (.touch z e)
    if s.owns .patron (zoneLine z) then s.notify .patron (.touch z e) else s
  else s

/-- ARMING_TIMER_EXPIRY: ARMING to TOUCHED, a touch event (R50, R52). -/
def execArmingTimerExpiry (z : ZoneId) (s : State) : Outcome State Fault Refusal :=
  let zone := s.zones.get z
  if zone.state = .arming then
    .next ((s.putZone z { zone with state := .touched }).touchNotice z .touched)
  else .refused .cannotArise

/-- A released zone as the engine takes it: one in the stale zone set leaves it, and its line is queued in
the open refresh, or a catch-up follows; a change of the set with no refresh open prompts the
status-line writer (R23, R29, R45). -/
def State.releaseStale (s : State) (z : ZoneId) : State :=
  if s.engine.stale.get z then
    let s := s.promptIf s.engine.refresh.isNone
    let s := s.setEngine { s.engine with stale := s.engine.stale.set z false }
    (s.catchUp [zoneLine z]).kick
  else s

/-- RELEASE_TIMER_EXPIRY: RELEASING to CLEAR, a release event with its effects in order (R50, R53). -/
def execReleaseTimerExpiry (z : ZoneId) (s : State) : Outcome State Fault Refusal :=
  let zone := s.zones.get z
  if zone.state = .releasing then
    let s := s.putZone z { zone with state := .clear }
    let s := s.clearFresh (zoneLine z)
    let s := s.touchNotice z .released
    .next (s.releaseStale z).settle
  else .refused .cannotArise

end Sys2Proof.Machine
end

