-- ==== Sys2Proof/Machine/Requests.lean ====
section
/-!
DEFINITION. The taking of a request by the handler of a link (R162) and its screening (R163), and the
two requests that tell only what the handler knows: an unknown kind, and IDENTIFY.
-/

namespace Sys2Proof.Machine

open Host (Outcome)

/-- The frame the handler of a link can take: the oldest complete frame of its port, while the port is in
service, the reply to the request before has been sent in full, and no RESET waits (R162, R179). -/
def State.takeable (s : State) (l : Link) : Option Frame :=
  if s.inService l && s.ports.resetWait.isNone && !(s.port l).replyOutstanding then
    (s.port l).frames.head?
  else none

/-- The frame taken leaves the receive buffer (R161). -/
def State.popFrame (s : State) (l : Link) : State :=
  s.setPort l { s.port l with frames := (s.port l).frames.tail }

/-- The retained record is being loaded (R151, R152). -/
def State.loading (s : State) : Bool :=
  match s.stage with
  | .unpowered | .loadingPowerOn | .loadingReset _ => true
  | .sweeping | .running => false

/-- Checks 2 to 4 of the screening (R163): permission, readiness, length. -/
def State.screen (s : State) (l : Link) (k : RequestKind) (n : Nat) : Option Reason :=
  if stationOnly k && l == .patron then some .notPermitted
  else if s.loading then some .notReady
  else if s.stage != .running && !(k == .identify || k == .status) then some .notReady
  else if !lengthAllowed k n then some .badLength
  else none

/-- A request is served once it has passed the screening: refused by one of its own checks, or accepted
with the state after it. -/
abbrev Service := State → Frame → Except Reason State

/-- The taking of a request of kind `k`: the frame leaves the buffer; the first check that fails gives
the refusal; a request that passes has its effect (R162, R163). -/
def State.take (s : State) (l : Link) (k : RequestKind) (serve : Service) :
    Outcome State Fault Refusal :=
  match s.takeable l with
  | none => .refused .notAtHandler
  | some f =>
    if f.kind = kindCode k then
      let t := s.popFrame l
      match s.screen l k f.payload.length with
      | some why => .next (t.refuse l f why)
      | none =>
        match serve t f with
        | .error why => .next (t.refuse l f why)
        | .ok u => .next u
    else .refused .notAtHandler

/-- UNKNOWN_KIND_REQUEST: a frame whose kind is no request kind is taken and refused (R160, R163). -/
def execUnknownKindRequest (l : Link) (s : State) : Outcome State Fault Refusal :=
  match s.takeable l with
  | none => .refused .notAtHandler
  | some f =>
    if isRequestKind f.kind then .refused .notAtHandler
    else .next ((s.popFrame l).refuse l f .unknownKind)

/-- IDENTIFY's service (R169). -/
def serveIdentify (l : Link) : Service := fun s f =>
  .ok (s.sendReply l f.tag (.identify s.modules.present s.store.recordState))

/-- IDENTIFY (R169). -/
def execIdentify (l : Link) (s : State) : Outcome State Fault Refusal :=
  s.take l .identify (serveIdentify l)

/-- The fields STATUS reports, with the flags of the port of the link (R170). -/
def State.statusReport (s : State) (l : Link) : StatusReport where
  accepting := s.stage == .running
  engine := s.engine.state
  refreshOpen := s.engine.refresh.isSome
  generation := s.engine.generation
  queueLength := s.engine.queue.length
  staleZones := s.engine.stale.count
  q := s.reservoir.q
  v := voltageOf s.reservoir.q
  charger := s.reservoir.charger
  modules := Table.tab s.moduleState
  faultEntries := s.health.faultMap.length
  lastRefusal := (s.port l).lastRefusal
  flags := (s.port l).flags

/-- STATUS's service: the report, and the port's flags that it reports as set are cleared (R170). -/
def serveStatus (l : Link) : Service := fun s f =>
  let report := s.statusReport l
  .ok ((s.setPort l { s.port l with flags := clearFlags }).sendReply l f.tag (.status report))

/-- STATUS (R170). -/
def execStatus (l : Link) (s : State) : Outcome State Fault Refusal :=
  s.take l .status (serveStatus l)

/-- RESET's service: the reply; from now on no request is taken, until the reset takes effect. A patron
reply not yet sent in full, waiting or in sending, is waited for (R179). -/
def serveReset (l : Link) : Service := fun s f =>
  let t := s.sendReply l f.tag .reset
  .ok (t.setPorts
    { t.ports with
      resetWait := some ⟨s.ports.patron.replyOutstanding, false⟩ })

/-- RESET (R179). -/
def execReset (l : Link) (s : State) : Outcome State Fault Refusal :=
  s.take l .reset (serveReset l)

end Sys2Proof.Machine
end

