-- ==== Sys2Proof/Machine/HealthRequests.lean ====
section
/-!
DEFINITION. Requests on the health records, the retained record and the modules: FAULT_LIST, FAULT_CLEAR,
TRIM_LIST, WEAR_READ, RECORD_COMMIT, MODULE_RESET, and the completion of a record write (R116, R136 to
R138, R145, R147, R149, R150).
-/

namespace Sys2Proof.Machine

open Host (Outcome)

/-- FAULT_LIST's service (R136). -/
def serveFaultList (l : Link) : Service := fun s f =>
  match f.payload with
  | [start] =>
    if start.toNat < Config.faultMapCapacity then
      .ok (s.sendReply l f.tag
        (.faults s.health.faultMap.length start.toNat
          ((s.health.faultMap.drop start.toNat).take Config.faultListPage)))
    else .error .outOfRange
  | _ => .error .badLength

/-- FAULT_LIST (R136). -/
def execFaultList (l : Link) (s : State) : Outcome State Fault Refusal :=
  s.take l .faultList (serveFaultList l)

/-- The entries a FAULT_CLEAR names: all, or those of one pin (R137). -/
def clearTest (payload : List Byte) : Except Reason (FaultEntry → Bool) :=
  match payload with
  | [] => .ok fun _ => true
  | [line, cell, dot] =>
    match lineOf line, cellOfByte cell, dotOfByte dot with
    | some ln, some c, some d => .ok fun e => e.line == ln && e.cell == c && e.dot == d
    | _, _, _ => .error .outOfRange
  | _ => .error .badLength

/-- The entries are removed; each cleared line loses its fresh flag, and those with undone work are named
in one catch-up (R137, R138). A change of the map with no refresh open prompts the writer (R45). -/
def State.clearFaults (s : State) (test : FaultEntry → Bool) : State :=
  let removed := s.health.faultMap.filter test
  let cleared := allLines.filter fun ln => removed.any fun e => e.line == ln
  let s := s.setHealth { s.health with faultMap := s.health.faultMap.filter fun e => !test e }
  let s := s.promptIf (!removed.isEmpty && s.engine.refresh.isNone)
  let s := cleared.foldl State.clearFresh s
  (s.catchUp (cleared.filter s.lineUndone)).kick

/-- FAULT_CLEAR's service (R137, R138). A pin with no entry has no further effect. -/
def serveFaultClear (l : Link) : Service := fun s f =>
  match clearTest f.payload with
  | .error why => .error why
  | .ok test =>
    let removed := s.health.faultMap.countP test
    let t := s.sendReply l f.tag (.faultsCleared removed (s.health.faultMap.length - removed))
    if removed = 0 then .ok t else .ok (t.clearFaults test).settle

/-- FAULT_CLEAR (R137). -/
def execFaultClear (l : Link) (s : State) : Outcome State Fault Refusal :=
  s.take l .faultClear (serveFaultClear l)

/-- TRIM_LIST's service (R145). -/
def serveTrimList (l : Link) : Service := fun s f =>
  .ok (s.sendReply l f.tag (.trims s.health.trims))

/-- TRIM_LIST, taken before or after a verify's trim updates (R145). One taken between the two updates of a
verify is part of VERIFY_SENSE_COMPLETE, which calls this meaning (log entry 29). -/
def execTrimList (l : Link) (s : State) : Outcome State Fault Refusal :=
  s.take l .trimList (serveTrimList l)

/-- The count of a WEAR_READ: held within 1 to 48, then within the table (R147). -/
def wearCount (first count : Nat) : Nat := min (clampTo 1 Config.wearReadPage count) (960 - first)

/-- WEAR_READ's service (R147). -/
def serveWearRead (l : Link) : Service := fun s f =>
  match f.payload with
  | [hi, lo, count] =>
    let first := nat2 hi lo
    if first < 960 then
      .ok (s.sendReply l f.tag
        (.wear first ((s.health.wear.cells.drop first).take (wearCount first count.toNat))))
    else .error .outOfRange
  | _ => .error .badLength

/-- WEAR_READ (R147). -/
def execWearRead (l : Link) (s : State) : Outcome State Fault Refusal :=
  s.take l .wearRead (serveWearRead l)

/-- The snapshot of the working values, with its CRC-32 (R149). -/
def State.snapshot (s : State) : CheckedRecord :=
  let r : Record := ⟨s.settings, s.health⟩
  ⟨r, recordCrc r⟩

/-- RECORD_COMMIT's service (R149): BUSY while a commit is in flight; else the snapshot is taken and the
write begins, and until it completes the stored record is neither blank nor valid (R150). -/
def serveRecordCommit (l : Link) : Service := fun s f =>
  if s.store.commit.isSome then .error .busy
  else
    .ok ((s.setStore { s.store with stored := .unfinished, commit := some s.snapshot }).sendReply l
      f.tag .recordCommit)

/-- RECORD_COMMIT (R149). -/
def execRecordCommit (l : Link) (s : State) : Outcome State Fault Refusal :=
  s.take l .recordCommit (serveRecordCommit l)

/-- RECORD_WRITE_COMPLETE: the stored record holds the snapshot and is valid, and RECORD_WRITTEN goes to
STATION (R150). A RESET in waiting notes that the commit completed after it was taken (R179). -/
def execRecordWriteComplete (s : State) : Outcome State Fault Refusal :=
  match s.store.commit with
  | none => .refused .cannotArise
  | some c =>
    let s := s.setStore { s.store with stored := .whole c, commit := none }
    let s := s.setPorts
      { s.ports with
        resetWait := s.ports.resetWait.map fun w => { w with commitCompleted := true } }
    .next (s.notify .station .recordWritten)

/-- MODULE_RESET's service (R116): the checks in order; then the reply, MODULE_CHANGED, and the effects of
entering STARTING (R107). -/
def serveModuleReset (l : Link) (reading : Int) : Service := fun s f =>
  match f.payload with
  | [m] =>
    match moduleOfByte m with
    | none => .error .outOfRange
    | some m =>
      if s.moduleState m = .absent then .error .outOfRange
      else if s.moduleBusy m then .error .busy
      else
        .ok ((s.sendReply l f.tag (.moduleReset m .starting)).enterStarting m reading).kick.settle
  | _ => .error .badLength

/-- MODULE_RESET (R116). -/
def execModuleReset (l : Link) (reading : Int) (s : State) : Outcome State Fault Refusal :=
  s.take l .moduleReset (serveModuleReset l reading)

end Sys2Proof.Machine
end

