-- ==== Sys2Proof/Machine/LinkEvents.lean ====
section
/-!
DEFINITION. Events on the two links: bytes arriving, the gap timer, a frame sent, and the presence of a
patron device (R42, R43, R155, R158 to R161, R178).
-/

namespace Sys2Proof.Machine

open Host (Outcome)

/-! ### The receiver (R159 to R161) -/

/-- Bytes the port holds of the frame being received (R161). -/
def receiverHeld : Receiver → Nat
  | .hunt => 0
  | .length => 1
  | .kind _ => 2
  | .tag _ _ => 3
  | .payload _ _ _ got => 4 + got.length
  | .check _ _ _ payload first => 4 + payload.length + first.isSome.toNat

/-- Bytes that count against the receive buffer (R161). -/
def Port.held (p : Port) : Nat := (p.frames.map frameSize).sum + receiverHeld p.receiver

/-- A byte arriving in HUNT other than 0xC3 is not kept (R161). -/
def keepsByte (r : Receiver) (b : Byte) : Bool := r != .hunt || b == 0xC3

/-- A discard: the bytes of the frame are removed, LINK_ERROR is set, the receiver is in HUNT (R160). -/
def Port.discard (p : Port) : Port := setLinkError { p with receiver := .hunt }

/-- The second CRC byte has arrived: a frame whose CRC agrees stays in the buffer behind the others, any
other is discarded (R157, R159). -/
def Port.checkFrame (p : Port) (length kind tag : Byte) (payload : List Byte) (crc : BitVec 16) : Port :=
  if crc = crcOf (length :: kind :: tag :: payload) then
    { p with receiver := .hunt, frames := p.frames ++ [⟨kind, tag, payload, crc⟩] }
  else p.discard

/-- The receiver's table (R159), for a byte that is not lost. -/
def Port.advance (p : Port) (b : Byte) : Port :=
  match p.receiver with
  | .hunt => if b = 0xC3 then { p with receiver := .length } else p
  | .length => if b.toNat ≤ Config.payloadLimit then { p with receiver := .kind b } else p.discard
  | .kind n => { p with receiver := .tag n b }
  | .tag n k =>
    if n = 0 then { p with receiver := .check n k b [] none }
    else { p with receiver := .payload n k b [] }
  | .payload n k t got =>
    if got.length + 1 < n.toNat then { p with receiver := .payload n k t (got ++ [b]) }
    else { p with receiver := .check n k t (got ++ [b]) none }
  | .check n k t payload none => { p with receiver := .check n k t payload (some b) }
  | .check n k t payload (some high) => p.checkFrame n k t payload (high ++ b)

/-- A byte arrives: one that would be kept when 512 bytes are held is lost, with the frame being received
(R161); any other advances the receiver (R159). -/
def Port.receive (p : Port) (b : Byte) : Port :=
  if keepsByte p.receiver b && decide (Config.receiveBuffer ≤ p.held) then p.discard else p.advance b

/-- BYTE_RECEIVED (R159). A port out of service receives no bytes (R155, R178). -/
def execByteReceived (l : Link) (b : Byte) (s : State) : Outcome State Fault Refusal :=
  if s.inService l then .next (s.setPort l ((s.port l).receive b)) else .next s

/-- GAP_TIMER_EXPIRY: the frame being received is discarded (R159, R160). The timer runs in every state
but HUNT. -/
def execGapTimerExpiry (l : Link) (s : State) : Outcome State Fault Refusal :=
  if (s.port l).receiver = .hunt then .refused .cannotArise
  else .next (s.setPort l (s.port l).discard)

/-- FRAME_SENT: the frame in sending is out, and the next of the queue begins (R158). -/
def execFrameSent (l : Link) (s : State) : Outcome State Fault Refusal :=
  if (s.port l).sending.isSome then
    .next (s.setPort l (Port.startSend { s.port l with sending := none }))
  else .refused .cannotArise

/-! ### Patron presence (R42, R43, R178) -/

/-- The panes that presence takes from PATRON get owner STATION; ids and extents stay (R42). -/
def revertPanes (panes : List Pane) : List Pane :=
  panes.map fun p => if p.owner = .patron then { p with owner := .station } else p

/-- The loss of presence on a board with power: the patron port is emptied, PATRON's panes revert with
their staging set to target, and PATRON leaves the requesters (R42, R178). -/
def State.losePatron (s : State) : State :=
  let lines := s.ownedLines .patron
  let s := s.setPorts { s.ports with patron := freshPort, presence := false }
  let s := (s.setPanes (revertPanes s.panes)).stagingToTarget lines
  s.updRefresh fun r => { r with requesters := { r.requesters with patron := false } }

/-- PRESENCE_LOST (R42, R178). Without power only the line falls (log entry 7). -/
def execPresenceLost (s : State) : Outcome State Fault Refusal :=
  if s.ports.presence then
    if s.powered then .next s.losePatron
    else .next (s.setPorts { s.ports with presence := false })
  else .refused .cannotArise

/-- PRESENCE_GAINED: the patron port comes into service empty (R43). -/
def execPresenceGained (s : State) : Outcome State Fault Refusal :=
  if s.ports.presence then .refused .cannotArise
  else .next (s.setPorts { s.ports with patron := freshPort, presence := true })

end Sys2Proof.Machine
end

