-- ==== Sys2Proof/Machine/SenseEvents.lean ====
section
/-!
DEFINITION. Completions: the six kinds of sense pass (R112), with the verify unit's comparison and the
trim update (R122 to R129, R143, R144), and the completion of a stroke (R93).
-/

namespace Sys2Proof.Machine

open Host (Outcome)

/-- The line of the sense pass in flight, if it is of the kind given. -/
def State.sensing (s : State) (k : SenseKind) : Option Line :=
  match s.modules.operation with
  | some (.sense kind l) => if kind = k then some l else none
  | _ => none

/-- The module returns its states: sensed and fresh are written, and nothing is in flight (R112). -/
def State.endSense (s : State) (l : Line) (states : Content) : State :=
  (s.writeSense l states).setOperation none

/-- SWEEP_SENSE_COMPLETE (R6). -/
def execSweepSenseComplete (states : Content) (s : State) : Outcome State Fault Refusal :=
  match s.sensing .sweep with
  | none => .refused .cannotArise
  | some l => .next ((s.endSense l states).continueSweep).settle

/-- What follows the end of an operation on the current line or on a line a CANCEL took: the end of the
CANCEL's work, or `go` for the current line; the engine chooses where neither is there. -/
def State.afterLineWork (s : State) (go : Current → State) : State :=
  match s.engine.cancelled with
  | some w => s.endCancel w
  | none =>
    match s.engine.current with
    | some c => go c
    | none => s.kick

/-- PRE_SENSE_COMPLETE: round 0 starts (R17). -/
def execPreSenseComplete (states : Content) (s : State) : Outcome State Fault Refusal :=
  match s.sensing .pre with
  | none => .refused .cannotArise
  | some l =>
    let t := s.endSense l states
    .next (t.afterLineWork fun c => State.andChoose (t.packingPoint ⟨c.line, startRound⟩)).settle

/-! ### The comparison (R123) -/

/-- The classes of a pin at a verify sense. -/
inductive PinClass where
  | matched | faultMapped | guarded | retargeted | underStroke | disturbed | left
  deriving DecidableEq, Repr

/-- The class of a pin: the first row of the table that fits. `previous` is the line's sensed content just
before the sense completed (R122, R123). -/
def State.pinClass (s : State) (c : Current) (previous : Content) (p : LinePin) : PinClass :=
  if !s.mismatched c.line p then .matched
  else if s.faultMapped c.line p then .faultMapped
  else if s.guarded (pinZone c.line p) then .guarded
  else if (c.round.pins.get p).retargeted then .retargeted
  else if (c.round.pins.get p).firedInRound then .underStroke
  else if pinState (s.sensed c.line) p != pinState previous p then .disturbed
  else .left

/-- Pins of a bank that the comparison puts in a class (R124, R125, R127). -/
def State.classCount (s : State) (c : Current) (previous : Content) (b : BankId) (k : PinClass) : Nat :=
  allPins.countP fun p => pinBank c.line p == b && s.pinClass c previous p == k

/-- The update of a trim by two counts (R143); at a bound it stays where it is (R144). -/
def trimUpdate (t : Int) (under disturbed : Nat) : Int :=
  if disturbed < under then min Config.trimGreatest (t + 1)
  else if under < disturbed then max Config.trimLeast (t - 1)
  else t

/-- The update calls for a change that a bound prevents (R144). -/
def trimSaturates (t : Int) (under disturbed : Nat) : Bool :=
  (decide (disturbed < under) && decide (Config.trimGreatest ≤ t)) ||
    (decide (under < disturbed) && decide (t ≤ Config.trimLeast))

/-- One bank's trim update; saturation sets DRIVE_LIMIT (R143, R144). -/
def State.updateTrim (s : State) (b : BankId) (under disturbed : Nat) : State :=
  let t := s.health.trims.get b
  let s := s.setHealth { s.health with trims := s.health.trims.set b (trimUpdate t under disturbed) }
  if trimSaturates t under disturbed then s.flagBoth setDriveLimit else s

/-- One bank of the current line is handed to the trim table with its two counts (R127, R143). -/
def State.handBank (s : State) (c : Current) (previous : Content) (b : BankId) : State :=
  s.updateTrim b (s.classCount c previous b .underStroke) (s.classCount c previous b .disturbed)

/-- The handler of a link takes the TRIM_LIST at the front of its buffer; a handler that can take none is
passed over (R145, R162). -/
def State.takeTrimList (s : State) (l : Link) : State :=
  match execTrimList l s with
  | .next t => t
  | _ => s

/-- Both banks of the line are handed to the trim table, in ascending order (R127). A TRIM_LIST of the
links named is taken between the two updates (R145; log entry 29). -/
def State.updateTrims (s : State) (c : Current) (previous : Content) (between : List Link) : State :=
  let s := s.handBank c previous (firstBank c.line)
  let s := between.foldl State.takeTrimList s
  s.handBank c previous (secondBank c.line)

/-- The decision after a verify sense: another round while a pin outside every guarded zone is undone and
the round number is below RETRY_MAX, else the finish (R19). -/
def State.verifyDecision (s : State) (c : Current) : State :=
  if decide (c.round.number < s.settings.retryMax)
      && allPins.any (fun p => s.undone c.line p && !s.guarded (pinZone c.line p)) then
    State.andChoose (s.packingPoint ⟨c.line, c.round.next⟩)
  else (s.finishLine c (decide (s.settings.retryMax ≤ c.round.number))).choose

/-- VERIFY_SENSE_COMPLETE: the comparison, the trims, the decision (R19, R123, R127, R145). -/
def execVerifySenseComplete (result : VerifyResult) (s : State) : Outcome State Fault Refusal :=
  match s.sensing .verify with
  | none => .refused .cannotArise
  | some l =>
    let previous := s.sensed l
    let t := s.endSense l result.states
    .next (t.afterLineWork fun c =>
      let c : Current := ⟨c.line, c.round.sensedNow⟩
      (t.updateTrims c previous result.trimLists).verifyDecision c).settle

/-! ### The other senses -/

/-- CANCEL_SENSE_COMPLETE: target is set to the new sensed content if the copy is still due (R28). -/
def execCancelSenseComplete (states : Content) (s : State) : Outcome State Fault Refusal :=
  match s.sensing .cancel with
  | none => .refused .cannotArise
  | some l =>
    let t := s.endSense l states
    .next (t.afterLineWork fun _ => t.kick).settle

/-- A line found mismatched by an audit or return sense is named in a catch-up (R30, R118). -/
def State.catchUndone (s : State) (l : Line) : State :=
  if s.lineUndone l then s.catchUp [l] else s

/-- The engine after an audit sense: it chooses if a refresh is open, and is IDLE if none is (R10, R30). A
close that this choice leads to is told to every requester, a canceller among them (log entry 32, the model's
choice). -/
def State.leaveAudit (s : State) : State :=
  if s.engine.refresh.isSome then s.choose else s.goIdle

/-- AUDIT_SENSE_COMPLETE (R30). -/
def execAuditSenseComplete (states : Content) (s : State) : Outcome State Fault Refusal :=
  match s.sensing .audit with
  | none => .refused .cannotArise
  | some l => .next (((s.endSense l states).catchUndone l).leaveAudit).settle

/-- The line leaves the return-sense list (R117). -/
def State.dropReturn (s : State) (l : Line) : State :=
  s.setEngine { s.engine with returnList := s.engine.returnList.filter (· != l) }

/-- RETURN_SENSE_COMPLETE (R117, R118). -/
def execReturnSenseComplete (states : Content) (s : State) : Outcome State Fault Refusal :=
  match s.sensing .return with
  | none => .refused .cannotArise
  | some l =>
    .next ((((s.endSense l states).dropReturn l).catchUndone l).continueReturn).settle

/-! ### The completion of a stroke (R93) -/

/-- The stroke in flight. -/
def State.strokeInFlight (s : State) : Option Stroke :=
  match s.modules.operation with
  | some (.stroke r) => some r
  | _ => none

/-- With VERIFY at 0 each pin of the stroke has its sensed state set to the state it was fired toward
(R21, R93). -/
def State.assumeDriven (s : State) (r : Stroke) : State :=
  if s.settings.verify then s
  else
    let old := s.sensed r.line
    s.putSensed r.line (contentOf fun p =>
      if r.pins.any fun k => k.pin == p then phaseTarget r.direction else pinState old p)

/-- The completion of a stroke on a line a CANCEL took: where the CANCEL read VERIFY as 1 a sense pass of
the line follows, where it read 0 the CANCEL's work ends (R28, R140; log entry 21). -/
def State.cancelledStroke (s : State) (w : CancelWork) : State :=
  if w.verify then s.startSense .cancel w.line else s.endCancel w

/-- STROKE_COMPLETE: the completion is the next packing point (R93). -/
def execStrokeComplete (s : State) : Outcome State Fault Refusal :=
  match s.strokeInFlight with
  | none => .refused .cannotArise
  | some r =>
    let t := (s.assumeDriven r).setOperation none
    .next (match t.engine.cancelled with
      | some w => t.cancelledStroke w
      | none =>
        match t.engine.current with
        | some c => State.andChoose (t.packingPoint c)
        | none => t.kick).settle

end Sys2Proof.Machine
end

