-- ==== Sys2Proof/Machine/ModuleEvents.lean ====
section
/-!
DEFINITION. Events of the actuator modules: self-tests (R107), temperature readings (R108 to R110), fault
reports (R113) and sense passes that fail (R114).
-/

namespace Sys2Proof.Machine

open Host (Outcome)

/-- Lines of a module join those that wait for the sweep (R6). -/
def State.awaitSweep (s : State) (m : ModuleId) : State :=
  s.setEngine
    { s.engine with
      sweepWaiting := Table.tab fun l => s.engine.sweepWaiting.get l || moduleOf l == m }

/-- A module enters READY from STARTING: during the sweep its lines wait to be sensed (R6), afterwards
they join the return-sense list (R117); while a record is being loaded nothing more follows, since the
load's end tests the module again (R107). -/
def State.returnToService (s : State) (m : ModuleId) : State :=
  match s.stage with
  | .sweeping => (s.awaitSweep m).continueSweep
  | .running => (((linesOf m).foldl State.addReturn (s.moduleChanged m .ready))).kickReturn
  | .unpowered | .loadingPowerOn | .loadingReset _ => s

/-- A module goes FAULTED by a failed self-test: during the sweep with the effects of R7 (R107, R115). -/
def State.failSelfTest (s : State) (m : ModuleId) : State :=
  let s := s.enterFaulted m
  if s.stage = .sweeping then (s.sweepFaulted m).continueSweep else s.kick

/-- SELF_TEST_COMPLETE: the reading taken with the outcome replaces the held one (R107). -/
def execSelfTestComplete (m : ModuleId) (passed : Bool) (reading : Int) (s : State) :
    Outcome State Fault Refusal :=
  if s.moduleState m = .starting then
    if passed then .next ((s.putModule m ⟨.ready, some reading, none⟩).returnToService m).settle
    else .next ((s.putModule m ⟨.starting, some reading, none⟩).failSelfTest m).settle
  else .refused .cannotArise

/-- The state a module goes to by a temperature reading (R109). -/
def afterReading (st : ModuleState) (reading : Int) : ModuleState :=
  match st with
  | .ready => if Config.hotAt ≤ reading then .hot else .ready
  | .hot => if reading ≤ Config.coolAt then .ready else .hot
  | .absent => .absent
  | .starting => .starting
  | .faulted => .faulted

/-- READY to HOT: a current line of the module that waits in CHARGING is suspended at once; otherwise the
line's next packing point does it (R85, R110). -/
def State.moduleHot (s : State) (m : ModuleId) : State :=
  match s.engine.current with
  | some c =>
    if s.engine.state = .charging ∧ moduleOf c.line = m then (s.suspend c).choose else s
  | none => s

/-- HOT to READY: an engine in HELD chooses (R15, R110). -/
def State.moduleCooled (s : State) : State :=
  if s.engine.state = .held then s.choose else s

/-- TEMPERATURE_READING: held, then compared (R108, R109, R110). -/
def execTemperatureReading (m : ModuleId) (reading : Int) (s : State) : Outcome State Fault Refusal :=
  let r := s.modules.records.get m
  if r.state = .absent then .refused .cannotArise
  else
    let new := afterReading r.state reading
    let s := s.putModule m ⟨new, some reading, r.selfTest⟩
    if new = r.state then .next s
    else
      let s := s.moduleChanged m new
      if new = .hot then .next (s.moduleHot m).settle else .next s.moduleCooled.settle

/-- MODULE_FAULT_REPORT: the stroke is cut and its module goes FAULTED; a CANCEL pending on the line ends,
otherwise the engine chooses again. Where the stroke's completion is taken first, its sensed states are
written first (R95, R113, R115; log entry 20). Both causes act alike. -/
def execModuleFaultReport (m : ModuleId) (_cause : DriveFault) (completionFirst : Bool) (s : State) :
    Outcome State Fault Refusal :=
  match s.strokeInFlight with
  | none => .refused .cannotArise
  | some r =>
    if r.module = m then
      let s := if completionFirst then s.assumeDriven r else s
      let s := (s.setOperation none).enterFaulted m
      .next (match s.engine.cancelled with
        | some w => s.endCancel w
        | none => s.kick).settle
    else .refused .cannotArise

/-- What follows a sense pass that failed, once its module is FAULTED (R114). A pre-sense or verify sense
that fails on a line a CANCEL has taken ends the CANCEL's work as a failed CANCEL sense does: target is set
to sensed as it stands (log entry 34, the model's choice). -/
def State.afterFailedSense (s : State) (k : SenseKind) (m : ModuleId) : State :=
  match k with
  | .sweep => (s.sweepFaulted m).continueSweep
  | .pre | .verify | .cancel =>
    match s.engine.cancelled with
    | some w => s.endCancel w
    | none => s.kick
  | .audit => s.leaveAudit
  | .return => s.continueReturn

/-- SENSE_PASS_FAILED: nothing is sensed and the module goes FAULTED (R114, R115). -/
def execSensePassFailed (s : State) : Outcome State Fault Refusal :=
  match s.modules.operation with
  | some (.sense k l) =>
    .next ((((s.setOperation none).enterFaulted (moduleOf l)).afterFailedSense k (moduleOf l))).settle
  | _ => .refused .cannotArise

end Sys2Proof.Machine
end

