-- ==== Sys2Proof/Machine/PageRequests.lean ====
section
/-!
DEFINITION. Requests on the page: WRITE_CELLS, FILL_LINES, SHOW, CANCEL, READ_IMAGE (R8, R9, R27, R28,
R39, R40, R166 to R168).
-/

namespace Sys2Proof.Machine

open Host (Outcome)

/-! ### Writes (R39, R40, R166, R167) -/

/-- Cells a WRITE_CELLS names, before truncation (R166). -/
def cellsNamed (first : Cell) (count : Nat) : Nat := if count = 0 then 40 - first.val else count

/-- Cells left after truncation at cell 39 (R39, R166). -/
def cellsAddressed (first : Cell) (count : Nat) : Nat :=
  min (cellsNamed first count) (40 - first.val)

/-- A line's content with `n` cells from `first` on replaced by the bytes, in cell order (R39). -/
def writeContent (old : Content) (first : Cell) (n : Nat) (bytes : List Byte) : Content :=
  Table.tab fun c =>
    if first.val ≤ c.val ∧ c.val < first.val + n then bytes.getD (c.val - first.val) 0 else old.get c

/-- WRITE_CELLS's service (R39, R166). -/
def serveWriteCells (l : Link) : Service := fun s f =>
  match f.payload with
  | line :: first :: count :: bytes =>
    match lineOf line, cellOfByte first with
    | some ln, some c =>
      if bytes.length = cellsNamed c count.toNat then
        let n := cellsAddressed c count.toNat
        if s.owns (linkIdentity l) ln then
          .ok ((s.putStaging ln (writeContent (s.staging ln) c n bytes)).sendReply l f.tag
            (.cellsWritten n 0))
        else .ok (s.sendReply l f.tag (.cellsWritten 0 n))
      else .error .badLength
    | _, _ => .error .outOfRange
  | _ => .error .badLength

/-- WRITE_CELLS (R39, R166). -/
def execWriteCells (l : Link) (s : State) : Outcome State Fault Refusal :=
  s.take l .writeCells (serveWriteCells l)

/-- Lines from `first` to `last` in ascending order. -/
def lineRange (first last : Line) : List Line :=
  allLines.filter fun l => decide (first ≤ l) && decide (l ≤ last)

/-- FILL_LINES's service (R40, R167). -/
def serveFillLines (l : Link) : Service := fun s f =>
  match f.payload with
  | [first, last, byte] =>
    match lineOf first, lineOf last with
    | some a, some b =>
      if a ≤ b then
        let lines := lineRange a b
        let owned := lines.filter (s.owns (linkIdentity l))
        .ok ((owned.foldl (fun s ln => s.putStaging ln (Table.fill byte)) s).sendReply l f.tag
          (.linesFilled (40 * owned.length) (40 * (lines.length - owned.length))))
      else .error .outOfRange
    | _, _ => .error .outOfRange
  | _ => .error .badLength

/-- FILL_LINES (R40, R167). -/
def execFillLines (l : Link) (s : State) : Outcome State Fault Refusal :=
  s.take l .fillLines (serveFillLines l)

/-! ### SHOW (R8 to R12) -/

/-- The scope of SHOW and CANCEL: every pane the sender owns, or the pane named (R8, R27). -/
def State.scope (s : State) (who : Identity) (payload : List Byte) : Except Reason (List Line) :=
  match payload with
  | [] => .ok (s.ownedLines who)
  | [id] =>
    match s.findPane id with
    | none => .error .outOfRange
    | some p => if p.owner = who then .ok (paneLines p) else .error .notPermitted
  | _ => .error .badLength

/-- The reply to SHOW: the generation after the commit, the dirty lines queued and those unavailable
(R9). -/
def State.showReply (s : State) (dirty : List Line) : Reply :=
  .shown (if dirty = [] then s.engine.generation else s.engine.generation + 1)
    (dirty.countP s.lineInService) (dirty.countP fun l => !s.lineInService l)

/-- SHOW's service: the reply enters its port ahead of the notices of the commit (R8, R9, R162). -/
def serveShow (l : Link) : Service := fun s f =>
  match s.scope (linkIdentity l) f.payload with
  | .error why => .error why
  | .ok lines =>
    let dirty := s.dirtyLines lines
    .ok (((s.sendReply l f.tag (s.showReply dirty)).commit (linkIdentity l) lines).settle)

/-- SHOW (R8). -/
def execShowPanes (l : Link) (s : State) : Outcome State Fault Refusal :=
  s.take l .show_ (serveShow l)

/-! ### CANCEL (R27, R28) -/

/-- An operation is in flight on the line as current line, or on a line an earlier CANCEL took
(R27, R28; log entry 14). -/
def State.workInFlight (s : State) (l : Line) : Bool :=
  !s.quiet &&
    (s.engine.current.any (fun c => c.line == l) || s.engine.cancelled.any fun w => w.line == l)

/-- CANCEL of one line: it leaves the queue and the unsettled sets, its zones leave the stale zone set,
and its target is set to sensed, at once or when the work in flight has ended (R27, R28, R44). VERIFY is
read here for a line with work in flight (R140). The sender of such a CANCEL alone is the one a close at
the work's end leaves out (log entry 33, the model's choice). -/
def State.cancelLine (who : Identity) (s : State) (l : Line) : State :=
  let busy := s.workInFlight l
  let s := s.setWriter { s.writer with lastUnsettled := s.writer.lastUnsettled.set l false }
  let s := s.setEngine
    { s.engine with
      queue := s.engine.queue.filter (· != l)
      refresh := s.engine.refresh.map fun r => { r with unsettled := r.unsettled.set l false }
      stale := Table.tab fun z => s.engine.stale.get z && zoneLine z != l
      current := s.engine.current.filter fun c => c.line != l
      cancelled := if busy then some ⟨l, who, true, s.settings.verify⟩ else s.engine.cancelled }
  if busy then s else s.putTarget l (s.sensed l)

/-- What the CANCEL of a set of lines changes prompts the status-line writer: the last unsettled set, or
the stale zone set while no refresh is open (R45). -/
def State.cancelPrompts (s : State) (lines : List Line) : Bool :=
  lines.any fun l =>
    s.writer.lastUnsettled.get l ||
      (s.engine.refresh.isNone && (zonesOf l).any s.engine.stale.get)

/-- After the lines of a CANCEL: with a refresh open and nothing in flight, the close decision when the
queue is empty; otherwise work goes on with the lines that remain (R27, R28). With an operation in flight
nothing follows here: a close at the end of an audit or return sense is an ordinary one, told to the sender
of the CANCEL too (log entry 32, the model's choice). -/
def State.afterCancel (s : State) (who : Identity) : State :=
  if s.engine.refresh.isSome && s.quiet && s.engine.current.isNone then
    if s.engine.queue = [] then s.closeDecision (some who) else s.choose
  else s

/-- The reply to CANCEL (R27). -/
def State.cancelReply (s : State) (lines : List Line) : Reply :=
  .cancelled s.engine.generation (lines.countP s.engine.queue.contains)
    ((lines.flatMap zonesOf).countP s.engine.stale.get)

/-- CANCEL's service (R27, R28). -/
def serveCancel (l : Link) : Service := fun s f =>
  match s.scope (linkIdentity l) f.payload with
  | .error why => .error why
  | .ok lines =>
    let who := linkIdentity l
    let t := s.sendReply l f.tag (s.cancelReply lines)
    let t := lines.foldl (State.cancelLine who) (t.promptIf (s.cancelPrompts lines))
    .ok (t.afterCancel who).settle

/-- CANCEL (R27). -/
def execCancel (l : Link) (s : State) : Outcome State Fault Refusal :=
  s.take l .cancel (serveCancel l)

/-! ### READ_IMAGE (R168) -/

/-- The image a code names: staging 0, target 1, sensed 2 (R181). -/
def State.imageOf (s : State) (code : Nat) : Option Image :=
  match code with
  | 0 => some s.page.staging
  | 1 => some s.page.target
  | 2 => some s.page.sensed
  | _ => none

/-- READ_IMAGE's service (R168). -/
def serveReadImage (l : Link) : Service := fun s f =>
  match f.payload with
  | [code, line] =>
    match s.imageOf code.toNat, lineOf line with
    | some image, some ln => .ok (s.sendReply l f.tag (.image code.toNat ln (image.get ln)))
    | _, _ => .error .outOfRange
  | _ => .error .badLength

/-- READ_IMAGE (R168). -/
def execReadImage (l : Link) (s : State) : Outcome State Fault Refusal :=
  s.take l .readImage (serveReadImage l)

end Sys2Proof.Machine
end

