-- ==== Sys2Proof/Machine/PaneRequests.lean ====
section
/-!
DEFINITION. Requests on the pane table: PANE_LIST, PANE_SPLIT, PANE_MERGE, PANE_GRANT (R33 to R38).
-/

namespace Sys2Proof.Machine

open Host (Outcome)

/-- PANE_LIST's service (R33). -/
def servePaneList (l : Link) : Service := fun s f =>
  .ok (s.sendReply l f.tag (.panes s.panes))

/-- PANE_LIST (R33). -/
def execPaneList (l : Link) (s : State) : Outcome State Fault Refusal :=
  s.take l .paneList (servePaneList l)

/-- The table with pane `p` ended before line `at_` and a new record for the rest after it (R35). -/
def splitPanes (panes : List Pane) (p : Pane) (at_ : Line) (newId : Fin 8) : List Pane :=
  panes.flatMap fun x =>
    if x.id = p.id then
      [{ x with last := ⟨at_.val - 1, by omega⟩ }, ⟨newId, at_, x.last, x.owner⟩]
    else [x]

/-- PANE_SPLIT's service: the checks of R35 in order, then the split. -/
def servePaneSplit (l : Link) : Service := fun s f =>
  match f.payload with
  | [id, at_] =>
    match s.findPane id with
    | none => .error .outOfRange
    | some p =>
      match lineOf at_ with
      | none => .error .outOfRange
      | some ln =>
        if p.first < ln ∧ ln ≤ p.last then
          match lowestFreeId s.panes with
          | none => .error .panesFull
          | some newId =>
            let t := s.setPanes (splitPanes s.panes p ln newId)
            let t := t.sendReply l f.tag (.paneSplit newId)
            .ok (t.promptIf (p.owner == .localWriter)).settle
        else .error .outOfRange
  | _ => .error .badLength

/-- PANE_SPLIT (R35). -/
def execPaneSplit (l : Link) (s : State) : Outcome State Fault Refusal :=
  s.take l .paneSplit (servePaneSplit l)

/-- The table with pane `q` removed and pane `p` extended to its last line (R36). -/
def mergePanes (panes : List Pane) (p q : Pane) : List Pane :=
  (panes.filter fun x => x.id != q.id).map fun x =>
    if x.id = p.id then { x with last := q.last } else x

/-- PANE_MERGE's service: the checks of R36 in order, then the merge. -/
def servePaneMerge (l : Link) : Service := fun s f =>
  match f.payload with
  | [id] =>
    match s.findPane id with
    | none => .error .outOfRange
    | some p =>
      match s.panes.find? fun q => q.first.val == p.last.val + 1 with
      | none => .error .panesMismatch
      | some q =>
        if q.owner = p.owner then
          let t := s.setPanes (mergePanes s.panes p q)
          let t := t.sendReply l f.tag (.paneMerged p.id q.last)
          .ok (t.promptIf (p.owner == .localWriter)).settle
        else .error .panesMismatch
  | _ => .error .badLength

/-- PANE_MERGE (R36). -/
def execPaneMerge (l : Link) (s : State) : Outcome State Fault Refusal :=
  s.take l .paneMerge (servePaneMerge l)

/-- OWNER_CHANGE: a pane gets a different owner, its lines' staging is set to target, and the writer is
prompted when LOCAL gains or loses the pane (R38, R45). -/
def State.changeOwner (s : State) (p : Pane) (new : Identity) : State :=
  let s := s.setPanes (replacePane s.panes p.id { p with owner := new })
  let s := s.stagingToTarget (paneLines p)
  s.promptIf (new == .localWriter || p.owner == .localWriter)

/-- The checks of R37 after the pane and the owner are known: permission, then presence. -/
def State.grantCheck (s : State) (l : Link) (p : Pane) (new : Identity) : Option Reason :=
  if l = .patron ∧ (p.owner ≠ .patron ∨ new = .patron) then some .notPermitted
  else if new = .patron ∧ s.ports.presence = false then some .notReady
  else none

/-- PANE_GRANT's service (R37): a grant to the present owner is accepted and changes nothing. -/
def servePaneGrant (l : Link) : Service := fun s f =>
  match f.payload with
  | [id, owner] =>
    match s.findPane id with
    | none => .error .outOfRange
    | some p =>
      match ownerOf owner with
      | none => .error .outOfRange
      | some new =>
        match s.grantCheck l p new with
        | some why => .error why
        | none =>
          let t := s.sendReply l f.tag (.paneGranted p.id new)
          if p.owner = new then .ok t else .ok (t.changeOwner p new).settle
  | _ => .error .badLength

/-- PANE_GRANT (R37). -/
def execPaneGrant (l : Link) (s : State) : Outcome State Fault Refusal :=
  s.take l .paneGrant (servePaneGrant l)

end Sys2Proof.Machine
end

