-- ==== Sys2Proof/Machine/PowerEvents.lean ====
section
/-!
DEFINITION. Power, the record load and the soft reset (R6, R7, R32, R64, R103, R106, R107, R120, R150 to
R152, R179, R180).
-/

namespace Sys2Proof.Machine

open Host (Outcome)

/-! ### Power -/

/-- Every zone CLEAR, with the reading its sensor has (R64). -/
def clearZones (zones : Table Zone 96) : Table Zone 96 :=
  Table.tab fun z => ⟨.clear, (zones.get z).present⟩

/-- The board in the stage given: what does not survive without power takes its initial value, the stored
record, the presence line and the sensors stay as they are. -/
def State.restarted (s : State) (stage : Stage) : State :=
  State.board stage s.store.stored s.ports.presence (clearZones s.zones) s.pending

/-- POWER_ON: the 20 ms record load begins (R32, R64, R103, R151, R155). On a board that has power it acts
as a loss of power followed by it (log entry 8). -/
def execPowerOn (s : State) : Outcome State Fault Refusal := .next (s.restarted .loadingPowerOn)

/-- POWER_LOST: a commit in flight leaves a record that fails its check (R150), which the store holds since
the commit began. -/
def execPowerLost (s : State) : Outcome State Fault Refusal :=
  if s.powered then .next (s.restarted .unpowered) else .refused .cannotArise

/-! ### Zones at a start -/

/-- Zones take their first readings: a present one goes to ARMING at once (R64). A zone of a module that
`attached` does not name reads absent throughout and stays CLEAR (R49). -/
def firstReadings (zones : Table Zone 96) (attached : ModuleId → Bool) : Table Zone 96 :=
  Table.tab fun z =>
    if attached (moduleOf (zoneLine z)) && (zones.get z).present then ⟨.arming, true⟩
    else ⟨.clear, false⟩

/-! ### The soft reset (R179, R180) -/

/-- The conditions under which a RESET that was taken takes effect (R179). -/
def State.resetDue (s : State) (w : ResetWait) : Bool :=
  !s.ports.station.replyOutstanding && (!w.patronReply || !s.ports.patron.replyOutstanding)
    && s.store.commit.isNone && (!w.commitCompleted || !s.ports.station.writtenOutstanding)

/-- The modules a soft reset starts again: those READY, HOT or STARTING when it takes effect (R107, R120). -/
def State.restartMask (s : State) : Table Bool 8 :=
  Table.tab fun m => inServiceState (s.moduleState m) || s.moduleState m == .starting

/-- A soft reset takes effect: one event for the ports, the engine, the guard, the reservoir and the
module interface (R5, R32, R33, R44, R64, R103, R120, R152, R180). Images, module records, health records,
settings and the stored record stay until the load ends. -/
def State.softReset (s : State) : State :=
  let zones := firstReadings s.zones fun m => s.moduleState m != .absent
  let s := s.setStage (.loadingReset s.restartMask)
  let s := s.setPorts ⟨freshPort, freshPort, s.ports.presence, none⟩
  let s := ((s.setPanes initialPanes).setWriter initialWriter).setZones zones
  let s := (s.setEngine initialEngine).setReservoir initialReservoir
  (s.setOperation none).clearAllFresh

/-- SOFT_RESET_TAKES_EFFECT (R179, R180). -/
def execSoftResetTakesEffect (s : State) : Outcome State Fault Refusal :=
  match s.ports.resetWait with
  | none => .refused .cannotArise
  | some w => if s.resetDue w then .next s.softReset else .refused .cannotArise

/-! ### The end of a load (R151, R152) -/

/-- The working settings and record_state after a load (R151, R152). -/
def State.loadSettings (s : State) : State :=
  match loadRecord s.store.stored with
  | some r =>
    (s.setSettings (clampSettings r.settings)).setStore { s.store with recordState := .loaded }
  | none => (s.setSettings defaultSettings).setStore { s.store with recordState := .defaulted }

/-- The health records after a load at power-on (R151). -/
def State.loadHealth (s : State) : State :=
  match loadRecord s.store.stored with
  | some r => s.setHealth r.health
  | none => s.setHealth blankHealth

/-- Module detection: the positions that answer enter STARTING with their first reading, the others are
ABSENT, and the zones of detected modules take their first readings (R64, R106, R107). -/
def State.detect (s : State) (answers : Table Bool 8) (readings : Table Int 8) : State :=
  let record (m : ModuleId) : ModuleRecord :=
    if answers.get m then ⟨.starting, some (readings.get m), some Config.selfTestMs⟩ else absentModule
  (s.setModules ⟨Table.tab record, answers, none⟩).setZones (firstReadings s.zones answers.get)

/-- The modules of a soft reset enter STARTING (R107, R120). -/
def State.restartModules (s : State) (mask : Table Bool 8) (readings : Table Int 8) : State :=
  mask.members.foldl (fun s m => s.enterStarting m (readings.get m)) s

/-- The sweep begins: fresh flags are cleared, and the lines of ABSENT and FAULTED modules are set to
all-lowered (R6, R7). With no module STARTING it completes at once. -/
def State.startSweep (s : State) : State :=
  let s := (s.setStage .sweeping).clearAllFresh
  let out := allLines.filter fun l => s.lineModule l == .absent || s.lineModule l == .faulted
  (s.blankLines out).continueSweep

/-- RECORD_LOAD_COMPLETE: after power-on the settings and the health records are loaded and the modules
detected (R106, R151); after a soft reset the settings alone are loaded and the modules tested again
(R120, R152). The sweep begins (R6). -/
def execRecordLoadComplete (answers : Table Bool 8) (readings : Table Int 8) (s : State) :
    Outcome State Fault Refusal :=
  match s.stage with
  | .loadingPowerOn =>
    .next ((s.loadSettings.loadHealth.detect answers readings).startSweep).settle
  | .loadingReset mask => .next ((s.loadSettings.restartModules mask readings).startSweep).settle
  | .unpowered | .sweeping | .running => .refused .cannotArise

end Sys2Proof.Machine
end

