-- ==== Sys2Proof/Machine/SettingRequests.lean ====
section
/-!
DEFINITION. GET and SET (R171 to R174), with the effects a SET has at its taking (R85, R101, R102, R174).
-/

namespace Sys2Proof.Machine

open Host (Outcome)

/-- The working value of settings 1 to 14 (R171, R172). -/
def settingNumber (x : Settings) (id : Nat) : Option Nat :=
  match id with
  | 1 => some x.baseRaiseUs
  | 2 => some x.baseLowerUs
  | 3 => some x.classStepPct
  | 4 => some x.trimStepUs
  | 5 => some x.retryMax
  | 6 => some x.verify.toNat
  | 7 => some x.guard.toNat
  | 8 => some x.deferMs
  | 9 => some x.qFloor
  | 10 => some x.qReady
  | 11 => some x.chargerIdleMs
  | 12 => some x.auditMs
  | 13 => some x.touchNotices.toNat
  | 14 => some (match x.resetPolicy with | .hold => 0 | .blank => 1)
  | _ => none

/-- The class tables, settings 15 and 16 (R171). -/
def settingTable (x : Settings) (id : Nat) : Option (Table WidthClass 16) :=
  match id with
  | 15 => some x.raiseTable
  | 16 => some x.lowerTable
  | _ => none

/-- The settings with a value clamped into the range of settings 1 to 14 and stored (R102, R173). -/
def storeNumber (x : Settings) (id v : Nat) : Option Settings :=
  match id with
  | 1 => some { x with baseRaiseUs := clampTo 200 2000 v }
  | 2 => some { x with baseLowerUs := clampTo 200 2000 v }
  | 3 => some { x with classStepPct := clampTo 0 30 v }
  | 4 => some { x with trimStepUs := clampTo 0 32 v }
  | 5 => some { x with retryMax := clampTo 0 3 v }
  | 6 => some { x with verify := clampTo 0 1 v == 1 }
  | 7 => some { x with guard := clampTo 0 1 v == 1 }
  | 8 => some { x with deferMs := clampTo 0 60000 v }
  | 9 => some (raiseReady { x with qFloor := clampTo 64 448 v })
  | 10 => some { x with qReady := clampReady x.qFloor v }
  | 11 => some { x with chargerIdleMs := clampTo 0 600000 v }
  | 12 => some { x with auditMs := clampTo 0 60000 v }
  | 13 => some { x with touchNotices := clampTo 0 1 v == 1 }
  | 14 => some { x with resetPolicy := if clampTo 0 1 v = 1 then .blank else .hold }
  | _ => none

/-- The settings with one entry of a class table stored (R173). -/
def storeClass (x : Settings) (id : Nat) (entry : Fin 16) (c : WidthClass) : Option Settings :=
  match id with
  | 15 => some { x with raiseTable := x.raiseTable.set entry c }
  | 16 => some { x with lowerTable := x.lowerTable.set entry c }
  | _ => none

/-- GET's service (R172). -/
def serveGet (l : Link) : Service := fun s f =>
  match f.payload with
  | [id] =>
    match settingNumber s.settings id.toNat with
    | some v => .ok (s.sendReply l f.tag (.settingValue id.toNat v))
    | none =>
      match settingTable s.settings id.toNat with
      | some t => .ok (s.sendReply l f.tag (.settingTable id.toNat t))
      | none => .error .outOfRange
  | _ => .error .badLength

/-- GET (R172). -/
def execGetSetting (l : Link) (s : State) : Outcome State Fault Refusal :=
  s.take l .get (serveGet l)

/-- A waiting packing point compares Q with Q_READY: at least Q_READY ends the wait (R85, R86). -/
def State.compareReady (s : State) : State :=
  match s.engine.current with
  | some c =>
    if s.engine.state = .charging ∧ s.settings.qReady ≤ s.reservoir.q then
      State.andChoose (s.packingPoint c)
    else s
  | none => s

/-- SET of DEFER_MS (R174): 0 while DEFERRED is a moment of the close decision; a value above 0 starts an
absent deadline of a refresh with stale zones. -/
def State.deferSet (s : State) : State :=
  if s.settings.deferMs = 0 then
    if s.engine.state = .deferred then s.closeDecision none else s
  else if s.engine.stale.count = 0 then s
  else s.updRefresh fun r => r.startDeadline s.settings.deferMs

/-- SET of CHARGER_IDLE_MS (R101): with no refresh open and the charger not OFF, a fresh idle interval
starts with the new value, or none with 0. -/
def State.chargerIdleSet (s : State) : State :=
  if s.engine.refresh.isNone && s.reservoir.charger != .off then
    s.setReservoir { s.reservoir with idle := timerOf s.settings.chargerIdleMs }
  else s

/-- SET of AUDIT_MS (R30, R174): while IDLE a fresh audit interval starts, or none with 0. -/
def State.auditSet (s : State) : State :=
  if s.engine.state = .idle then
    s.setEngine { s.engine with auditInterval := timerOf s.settings.auditMs }
  else s

/-- What a SET does at its taking beside storing (R174). -/
def State.setEffect (s : State) (id : Nat) : State :=
  match id with
  | 8 => s.deferSet
  | 9 => s.compareReady
  | 10 => s.compareReady
  | 11 => s.chargerIdleSet
  | 12 => s.auditSet
  | _ => s

/-- The service of SET for settings 1 to 14: stored, answered with the stored value, then its effects
(R173, R174). -/
def State.serveSetNumber (s : State) (l : Link) (f : Frame) (id : Nat) (x : Settings) : State :=
  let v := (settingNumber x id).getD 0
  let s := (s.setSettings x).sendReply l f.tag (.settingStored id v)
  (s.setEffect id).settle

/-- SET's service (R173). -/
def serveSet (l : Link) : Service := fun s f =>
  match f.payload with
  | [id, a, b, c, d] =>
    let v := nat4 a b c d
    match storeNumber s.settings id.toNat v with
    | some x => .ok (s.serveSetNumber l f id.toNat x)
    | none =>
      match settingTable s.settings id.toNat with
      | none => .error .outOfRange
      | some _ =>
        if h : v / 256 < 16 then
          match classOf (v % 256) with
          | none => .error .outOfRange
          | some cls =>
            match storeClass s.settings id.toNat ⟨v / 256, h⟩ cls with
            | none => .error .outOfRange
            | some x => .ok ((s.setSettings x).sendReply l f.tag (.settingStored id.toNat v))
        else .error .outOfRange
  | _ => .error .badLength

/-- SET (R173, R174). -/
def execSetSetting (l : Link) (s : State) : Outcome State Fault Refusal :=
  s.take l .set (serveSet l)

end Sys2Proof.Machine
end

