-- ==== Sys2Proof/Machine/TimerEvents.lean ====
section
/-!
DEFINITION. The charger's step and idle interval (R98 to R101), the audit interval (R30, R117) and the
deadline (R24).
-/

namespace Sys2Proof.Machine

open Host (Outcome)

/-- One unit more; at 512 the charger is FULL (R96, R98, R100). -/
def Reservoir.charge (r : Reservoir) : Reservoir :=
  { r with
    q := r.q + 1
    charger := if Config.reservoirCapacity ≤ r.q + 1 then .full else .charging }

/-- CHARGER_STEP: a unit is added, and a waiting packing point compares (R85, R100). -/
def execChargerStep (s : State) : Outcome State Fault Refusal :=
  if s.reservoir.charger = .charging then
    .next ((s.setReservoir s.reservoir.charge).compareReady).settle
  else .refused .cannotArise

/-- CHARGER_IDLE_EXPIRY: the charger goes OFF and Q becomes 0 (R99, R101). -/
def execChargerIdleExpiry (s : State) : Outcome State Fault Refusal :=
  if s.reservoir.idle.isSome then .next (s.setReservoir ⟨0, .off, none⟩)
  else .refused .cannotArise

/-- The lines in audit order: from the audit position, after 23 wrapping to 0 (R30). -/
def auditOrder (start : Line) : List Line := allLines.map fun k => start + k

/-- The audit does not skip the line: its module is READY and it has no guarded zone (R30). -/
def State.auditable (s : State) (l : Line) : Bool :=
  s.lineModule l == .ready && !s.lineGuarded l

/-- The audit interval starts again (R30, R117). -/
def State.restartAudit (s : State) : State :=
  s.setEngine { s.engine with auditInterval := timerOf s.settings.auditMs }

/-- AUDIT_INTERVAL_EXPIRY: the first line not skipped is sensed and the position moves behind it; with every
line skipped, or with return senses in flight or waiting, the interval starts again (R30, R117). -/
def execAuditIntervalExpiry (s : State) : Outcome State Fault Refusal :=
  if s.engine.auditInterval.isNone then .refused .cannotArise
  else if !s.quiet || !s.engine.returnList.isEmpty then .next s.restartAudit
  else
    match (auditOrder s.engine.auditPosition).find? s.auditable with
    | none => .next s.restartAudit
    | some l =>
      .next ((s.setEngine
        { s.engine with auditInterval := none, auditPosition := nextLine l }).startSense .audit l)

/-- DEADLINE_EXPIRY: the deadline is absent and the expired flag set; an engine in DEFERRED makes the close
decision (R24, R25). -/
def execDeadlineExpiry (s : State) : Outcome State Fault Refusal :=
  match s.engine.refresh with
  | none => .refused .cannotArise
  | some r =>
    if r.deadline.isSome then
      let t := s.updRefresh fun r => { r with deadline := none, expired := true }
      if s.engine.state = .deferred then .next (t.closeDecision none).settle else .next t
    else .refused .cannotArise

end Sys2Proof.Machine
end

