-- ==== Sys2Proof/Machine/Dispatch.lean ====
section
/-! DEFINITION. What each command does: one arm for each constructor of Instr. -/

namespace Sys2Proof.Machine

def exec (i : Instr) (s : State) : Host.Outcome State Fault Refusal :=
  match i with
  | .powerOn => Sys2Proof.Machine.execPowerOn s
  | .recordLoadComplete answers readings => Sys2Proof.Machine.execRecordLoadComplete answers readings s
  | .softResetTakesEffect => Sys2Proof.Machine.execSoftResetTakesEffect s
  | .byteReceived link byte => Sys2Proof.Machine.execByteReceived link byte s
  | .gapTimerExpiry link => Sys2Proof.Machine.execGapTimerExpiry link s
  | .frameSent link => Sys2Proof.Machine.execFrameSent link s
  | .presenceLost => Sys2Proof.Machine.execPresenceLost s
  | .presenceGained => Sys2Proof.Machine.execPresenceGained s
  | .unknownKindRequest link => Sys2Proof.Machine.execUnknownKindRequest link s
  | .identify link => Sys2Proof.Machine.execIdentify link s
  | .status link => Sys2Proof.Machine.execStatus link s
  | .getSetting link => Sys2Proof.Machine.execGetSetting link s
  | .setSetting link => Sys2Proof.Machine.execSetSetting link s
  | .writeCells link => Sys2Proof.Machine.execWriteCells link s
  | .fillLines link => Sys2Proof.Machine.execFillLines link s
  | .showPanes link => Sys2Proof.Machine.execShowPanes link s
  | .cancel link => Sys2Proof.Machine.execCancel link s
  | .readImage link => Sys2Proof.Machine.execReadImage link s
  | .paneList link => Sys2Proof.Machine.execPaneList link s
  | .paneSplit link => Sys2Proof.Machine.execPaneSplit link s
  | .paneMerge link => Sys2Proof.Machine.execPaneMerge link s
  | .paneGrant link => Sys2Proof.Machine.execPaneGrant link s
  | .faultList link => Sys2Proof.Machine.execFaultList link s
  | .faultClear link => Sys2Proof.Machine.execFaultClear link s
  | .trimList link => Sys2Proof.Machine.execTrimList link s
  | .wearRead link => Sys2Proof.Machine.execWearRead link s
  | .recordCommit link => Sys2Proof.Machine.execRecordCommit link s
  | .recordWriteComplete => Sys2Proof.Machine.execRecordWriteComplete s
  | .moduleReset link reading => Sys2Proof.Machine.execModuleReset link reading s
  | .reset link => Sys2Proof.Machine.execReset link s
  | .zoneReadingPresent zone => Sys2Proof.Machine.execZoneReadingPresent zone s
  | .zoneReadingAbsent zone => Sys2Proof.Machine.execZoneReadingAbsent zone s
  | .armingTimerExpiry zone => Sys2Proof.Machine.execArmingTimerExpiry zone s
  | .releaseTimerExpiry zone => Sys2Proof.Machine.execReleaseTimerExpiry zone s
  | .selfTestComplete module passed reading => Sys2Proof.Machine.execSelfTestComplete module passed reading s
  | .temperatureReading module reading => Sys2Proof.Machine.execTemperatureReading module reading s
  | .moduleFaultReport module cause completionFirst => Sys2Proof.Machine.execModuleFaultReport module cause completionFirst s
  | .sensePassFailed => Sys2Proof.Machine.execSensePassFailed s
  | .sweepSenseComplete states => Sys2Proof.Machine.execSweepSenseComplete states s
  | .preSenseComplete states => Sys2Proof.Machine.execPreSenseComplete states s
  | .verifySenseComplete result => Sys2Proof.Machine.execVerifySenseComplete result s
  | .cancelSenseComplete states => Sys2Proof.Machine.execCancelSenseComplete states s
  | .auditSenseComplete states => Sys2Proof.Machine.execAuditSenseComplete states s
  | .returnSenseComplete states => Sys2Proof.Machine.execReturnSenseComplete states s
  | .strokeComplete => Sys2Proof.Machine.execStrokeComplete s
  | .chargerStep => Sys2Proof.Machine.execChargerStep s
  | .chargerIdleExpiry => Sys2Proof.Machine.execChargerIdleExpiry s
  | .auditIntervalExpiry => Sys2Proof.Machine.execAuditIntervalExpiry s
  | .deadlineExpiry => Sys2Proof.Machine.execDeadlineExpiry s
  | .powerLost => Sys2Proof.Machine.execPowerLost s

end Sys2Proof.Machine
end

