-- ==== Sys2Proof/Safety.lean ====
section
/-!
DEFINITION. What the claims about the 2440 are stated with: the taking of a request, what an answer is, what an
event makes of the state before the engine goes on, how the engine, a packing point and the sweep go on from
there, and the invariants, block by block. A run is safe when no command faults, every stop has one of the two
names of Refusal that say why, and the invariants hold at every state.
-/

namespace Sys2Proof.Machine

/-! ### Requests -/

/-- The request rows: link and kind of the request that a command takes. -/
def requestOf : Instr → Option (Link × RequestKind)
  | .identify l => some (l, .identify)
  | .status l => some (l, .status)
  | .getSetting l => some (l, .get)
  | .setSetting l => some (l, .set)
  | .writeCells l => some (l, .writeCells)
  | .fillLines l => some (l, .fillLines)
  | .showPanes l => some (l, .show_)
  | .cancel l => some (l, .cancel)
  | .readImage l => some (l, .readImage)
  | .paneList l => some (l, .paneList)
  | .paneSplit l => some (l, .paneSplit)
  | .paneMerge l => some (l, .paneMerge)
  | .paneGrant l => some (l, .paneGrant)
  | .faultList l => some (l, .faultList)
  | .faultClear l => some (l, .faultClear)
  | .trimList l => some (l, .trimList)
  | .wearRead l => some (l, .wearRead)
  | .recordCommit l => some (l, .recordCommit)
  | .moduleReset l _ => some (l, .moduleReset)
  | .reset l => some (l, .reset)
  | _ => none

/-- The command takes a frame from a receive buffer: the request rows and UNKNOWN_KIND_REQUEST. -/
def takesFrame (c : Instr) : Bool :=
  match c with
  | .unknownKindRequest _ => true
  | c => (requestOf c).isSome

/-- The handler of the link takes frame `f` as a request of kind `k`, and it passes the screening (R162,
R163). -/
abbrev Takes (s : State) (l : Link) (k : RequestKind) (f : Frame) : Prop :=
  s.takeable l = some f ∧ f.kind = kindCode k ∧ s.screen l k f.payload.length = none

/-- The frame has left the buffer and is answered by the reply `r`; nothing else has happened. -/
def State.answered (s : State) (l : Link) (f : Frame) (r : Reply) : State :=
  (s.popFrame l).sendReply l f.tag r

/-- The frame has left the buffer and is refused; nothing else has happened. -/
def State.turnedAway (s : State) (l : Link) (f : Frame) (why : Reason) : State :=
  (s.popFrame l).refuse l f why

/-- The message waits in the port's transmit queue, or its frame is in sending. -/
abbrev Port.carries (p : Port) (m : Message) : Prop :=
  m ∈ p.queue ∨ p.sending = some (messageFrame m)

/-- The commands of the six sense completions; `trimLists` is the verify sense's alone. -/
def senseCommand (k : SenseKind) (states : Content) (trimLists : List Link) : Instr :=
  match k with
  | .sweep => .sweepSenseComplete states
  | .pre => .preSenseComplete states
  | .verify => .verifySenseComplete ⟨states, trimLists⟩
  | .cancel => .cancelSenseComplete states
  | .audit => .auditSenseComplete states
  | .return => .returnSenseComplete states

/-! ### What the blocks beside the engine hold -/

/-- The blocks that the refresh engine reads and never writes: the queue of commands, the panes, the
zones, the settings, the record store, the module records, the trims, the presence line. -/
structure SameBesideEngine (s t : State) : Prop where
  pending : t.pending = s.pending
  panes : t.panes = s.panes
  zones : t.zones = s.zones
  settings : t.settings = s.settings
  store : t.store = s.store
  records : t.modules.records = s.modules.records
  present : t.modules.present = s.modules.present
  trims : t.health.trims = s.health.trims
  presence : t.ports.presence = s.ports.presence
  resetWait : t.ports.resetWait = s.ports.resetWait

/-! ### What an event makes of the state before the engine goes on -/

/-- The ports after a change of the module to the state `x`: MODULE_CHANGED for STATION alone, once the sweep
has completed (R119). -/
def State.portsTold (s : State) (m : ModuleId) (x : ModuleState) : Ports :=
  if s.stage = .running then
    { s.ports with station := s.ports.station.pushNotice (.moduleChanged m x) }
  else s.ports

/-- The lines of a module have left service, in the engine of `u` and by its fresh flags: neither queued, nor
waiting for a return sense, nor current; those that were queued are unavailable lines of the open refresh
(R16, R107, R115). -/
structure LinesLeave (s : State) (m : ModuleId) (u : State) : Prop where
  engine : u.engine =
    { s.engine with
      queue := s.engine.queue.filter fun l => moduleOf l != m
      returnList := s.engine.returnList.filter fun l => moduleOf l != m
      current := s.engine.current.filter fun c => moduleOf c.line != m
      refresh := u.engine.refresh }
  closed : s.engine.refresh = none → u.engine.refresh = none
  unavailable : ∀ r, s.engine.refresh = some r → ∃ lost : LineSet,
    u.engine.refresh = some { r with unavailable := lost } ∧
    ∀ l, lost.get l = true ↔ r.unavailable.get l = true ∨ (moduleOf l = m ∧ l ∈ s.engine.queue)
  fresh : ∀ l, u.page.fresh.get l = (s.page.fresh.get l && moduleOf l != m)

/-- `u` is `s` after a catch-up for the lines `ls`, given in ascending order. With a refresh open the lines in
service are queued, those already queued at their places, and leave the unavailable lines, the others join
them, and all else stays. With none open a refresh opens for STATION, or, where no line can be queued,
nothing happens (R13, R14, R29, R98, R101). -/
structure CatchesUp (s : State) (ls : List Line) (u : State) : Prop where
  joins : ∀ r, s.engine.refresh = some r → ∃ unavailable : LineSet,
    (∀ l, unavailable.get l = if l ∈ ls then !s.lineInService l else r.unavailable.get l) ∧
    u = s.setEngine
      { s.engine with
        queue := s.engine.queue ++ ls.filter fun l => s.lineInService l && !s.engine.queue.contains l
        refresh := some { r with unavailable := unavailable } }
  nothing : s.engine.refresh = none → (∀ l ∈ ls, s.lineInService l = false) → u = s
  opens : s.engine.refresh = none → (∃ l ∈ ls, s.lineInService l = true) →
    ∃ unavailable : LineSet,
    (∀ l, unavailable.get l = true ↔ l ∈ ls ∧ s.lineInService l = false) ∧
    u = (s.setEngine
      { s.engine with
        generation := s.engine.generation + 1
        queue := s.engine.queue ++ ls.filter fun l => s.lineInService l && !s.engine.queue.contains l
        refresh := some
          ⟨⟨true, false, false⟩, none, false, 0, 0, 0, Table.fill false, unavailable⟩
        auditInterval := none }).setReservoir
      ⟨if s.reservoir.charger = .off then 0 else s.reservoir.q,
        if s.reservoir.charger = .off then .charging else s.reservoir.charger, none⟩

/-- The engine chooses after the event: a refresh is open, nothing is in flight, no line is being processed,
and an engine in DEFERRED has a line in its queue (R15, R16, R25). That an engine in DEFERRED without one makes
no close decision either when its last stale zone is released on a line out of service is the model's reading
(log entry 23, DEDUCED). -/
abbrev State.mayChoose (s : State) : Prop :=
  s.engine.refresh.isSome ∧ s.quiet = true ∧ s.engine.current = none ∧
    (s.engine.state = .deferred → s.engine.queue ≠ [])

/-- The event made the state `u`; then the engine chooses, if it may, and the event ends. -/
structure ChoosesFrom (o : Host.Outcome State Fault Refusal) (u : State) : Prop where
  choice : u.mayChoose → o = .next u.choose.settle
  stays : ¬ u.mayChoose → o = .next u.settle

/-- The work in flight of the CANCEL `w` has ended in the state `u`: target is set to sensed where the copy is
still due; with an empty queue the close decision is made, else the engine chooses (R28). That the close
decision does not wait for the return-sense list is the model's reading (log entry 15, DEDUCED); that a close
leaves out this canceller, after several CANCELs no other, also where a SHOW of that sender has merged since, is
the model's choice (log entries 33 and 35, DESIGN CHOICE). -/
structure CancelEndsFrom (o : Host.Outcome State Fault Refusal) (u : State) (w : CancelWork) : Prop where
  copied : w.copyDue = true →
    let v := (u.putTarget w.line (u.sensed w.line)).setEngine { u.engine with cancelled := none }
    o = .next (if u.engine.queue = [] then v.closeDecision (some w.canceller) else v.choose).settle
  dropped : w.copyDue = false →
    let v := u.setEngine { u.engine with cancelled := none }
    o = .next (if u.engine.queue = [] then v.closeDecision (some w.canceller) else v.choose).settle

/-- An audit or return sense has ended in the state `u`: a waiting line is sensed for its return; with none the
engine chooses in the open refresh, or is IDLE and the audit interval starts (R30, R117). That a close which the
choice leads to is an ordinary one, also where a CANCEL has emptied the queue during the sense, is the model's
choice (log entry 32, DESIGN CHOICE). -/
structure ResumesFrom (o : Host.Outcome State Fault Refusal) (u : State) : Prop where
  returns : ∀ l rest, u.engine.returnList = l :: rest →
    o = .next ((u.setEngine { u.engine with state := .sensing }).setModules
      { u.modules with operation := some (.sense .return l) }).settle
  choice : u.engine.returnList = [] → u.engine.refresh.isSome → o = .next u.choose.settle
  idle : u.engine.returnList = [] → u.engine.refresh = none →
    o = .next (u.setEngine
      { u.engine with
        state := .idle
        auditInterval := if u.settings.auditMs = 0 then none else some u.settings.auditMs }).settle

/-! ### Packing points (R16, R18 to R21, R84 to R86, R110) -/

/-- A pin that the present phase of the current line may drive (R18). -/
abbrev State.mayDrive (s : State) (c : Current) (p : LinePin) : Prop :=
  pinState (s.target c.line) p ≠ pinState (s.sensed c.line) p ∧ s.faultMapped c.line p = false ∧
  s.guarded (pinZone c.line p) = false ∧ pinState (s.target c.line) p = decide (c.round.phase = .raise) ∧
  (c.round.pins.get p).drivenInPhase = false

/-- The RAISE phase of the same round begins, with no pin driven in it (R18, R84). -/
def Current.raising (c : Current) : Current :=
  { c with round :=
    { c.round with
      phase := .raise
      pins := Table.tab fun p => { c.round.pins.get p with drivenInPhase := false } } }

/-- With a candidate: the packing event fires the stroke formed, where Q is at least Q_READY, and else the
engine waits in CHARGING (R84). -/
structure PacksWith (o : Host.Outcome State Fault Refusal) (s : State) (c : Current) : Prop where
  fires : s.settings.qReady ≤ s.reservoir.q → o = .next (s.fire c (s.formStroke c)).settle
  waits : s.reservoir.q < s.settings.qReady →
    o = .next (s.setEngine { s.engine with state := .charging, current := some c }).settle

/-- A RAISE phase has ended: the verify sense, with VERIFY at 1 and a stroke fired in the round; else the line
finishes and the engine chooses. The finish is searched for exhausted pins with VERIFY at 1 after the last round
(R18 to R21, R84, R129; log entries 11 and 12). -/
structure RaiseEnds (o : Host.Outcome State Fault Refusal) (s : State) (c : Current) : Prop where
  verifies : s.settings.verify = true → (∃ p, (c.round.pins.get p).firedInRound = true) →
    o = .next ((s.setEngine { s.engine with state := .sensing, current := some c }).setModules
      { s.modules with operation := some (.sense .verify c.line) }).settle
  finishes : (s.settings.verify = false ∨ ∀ p, (c.round.pins.get p).firedInRound = false) →
    (s.settings.verify = false ∨ c.round.number < s.settings.retryMax) →
    o = .next (s.leaveFinished c.line).choose.settle
  searches : s.settings.verify = true → (∀ p, (c.round.pins.get p).firedInRound = false) →
    s.settings.retryMax ≤ c.round.number →
    o = .next ((s.recordFaults c).leaveFinished c.line).choose.settle

/-- The packing point of the current line `c` has been made in the state `s`, and what follows it at once: on a
HOT module the line is suspended, its fresh flag cleared if a stroke has been fired on it since its last sense
pass, and the engine chooses; with a candidate the stroke or the wait; without one the end of the phase, a LOWER
phase being followed by the first packing point of the RAISE phase (R16, R84, R110). -/
structure PacksFrom (o : Host.Outcome State Fault Refusal) (s : State) (c : Current) : Prop where
  hot : s.lineModule c.line = .hot → ∃ fresh : LineSet,
    (∀ l, fresh.get l = true ↔
      s.page.fresh.get l = true ∧ ¬ (l = c.line ∧ s.page.struck.get l = true)) ∧
    o = .next ((s.setEngine { s.engine with current := none }).setPage
      { s.page with fresh := fresh }).choose.settle
  packs : s.lineModule c.line ≠ .hot → (∃ p, s.mayDrive c p) → PacksWith o s c
  raiseEnds : s.lineModule c.line ≠ .hot → c.round.phase = .raise → (∀ p, ¬ s.mayDrive c p) →
    RaiseEnds o s c
  raisePacks : s.lineModule c.line ≠ .hot → c.round.phase = .lower → (∀ p, ¬ s.mayDrive c p) →
    (∃ p, s.mayDrive c.raising p) → PacksWith o s c.raising
  bothEnd : s.lineModule c.line ≠ .hot → c.round.phase = .lower → (∀ p, ¬ s.mayDrive c p) →
    (∀ p, ¬ s.mayDrive c.raising p) → RaiseEnds o s c.raising

/-! ### The start-up sweep (R6, R7) -/

/-- The sweep completes in the state `s`. Under HOLD staging and target of each line in service become its sensed
content, and the engine is IDLE. Under BLANK they become all-lowered, and a refresh of STATION opens whose queue
holds, in ascending order, the lines in service with a raised pin in sensed; the engine then chooses, which closes
it COMPLETE where there is none. The generation is 0 until then, so it becomes 1 (R7, R10, R98, R101). -/
structure SweepCompletes (o : Host.Outcome State Fault Refusal) (s : State) : Prop where
  hold : s.settings.resetPolicy = .hold → ∃ staging target : Image,
    (∀ l, staging.get l = if s.lineInService l then s.sensed l else s.staging l) ∧
    (∀ l, target.get l = if s.lineInService l then s.sensed l else s.target l) ∧
    o = .next (((s.setStage .running).setPage
      { s.page with staging := staging, target := target }).setEngine
      { s.engine with
        state := .idle
        auditInterval := if s.settings.auditMs = 0 then none else some s.settings.auditMs }).settle
  blank : s.settings.resetPolicy = .blank → ∃ (staging target : Image) (raised : List Line),
    (∀ l, staging.get l = if s.lineInService l then Table.fill 0 else s.staging l) ∧
    (∀ l, target.get l = if s.lineInService l then Table.fill 0 else s.target l) ∧
    raised.Pairwise (· < ·) ∧
    (∀ l, l ∈ raised ↔ s.lineInService l = true ∧ ∃ p, pinState (s.sensed l) p = true) ∧
    ChoosesFrom o ((((s.setStage .running).setPage
      { s.page with staging := staging, target := target }).setEngine
      { s.engine with
        generation := s.engine.generation + 1
        queue := raised
        refresh := some
          ⟨⟨true, false, false⟩, none, false, 0, 0, 0, Table.fill false, Table.fill false⟩
        auditInterval := none }).setReservoir
      ⟨if s.reservoir.charger = .off then 0 else s.reservoir.q,
        if s.reservoir.charger = .off then .charging else s.reservoir.charger, none⟩)

/-- The sweep goes on from the state `s`: nothing new while a sense pass is in flight; else the lowest waiting line
is sensed; with none waiting the sweep waits for the modules that are STARTING, and with none of those it
completes (R6). -/
structure SweepGoesOn (o : Host.Outcome State Fault Refusal) (s : State) : Prop where
  inFlight : s.quiet = false → o = .next s.settle
  senses : s.quiet = true → ∀ l, s.engine.sweepWaiting.get l = true →
    (∀ k < l, s.engine.sweepWaiting.get k = false) →
    o = .next ((s.setEngine
      { s.engine with
        state := .sensing
        sweepWaiting := s.engine.sweepWaiting.set l false }).setModules
      { s.modules with operation := some (.sense .sweep l) }).settle
  waits : s.quiet = true → (∀ l, s.engine.sweepWaiting.get l = false) →
    (∃ m, s.moduleState m = .starting) → o = .next s.settle
  completes : s.quiet = true → (∀ l, s.engine.sweepWaiting.get l = false) →
    (∀ m, s.moduleState m ≠ .starting) → s.engine.queue = [] → s.engine.returnList = [] →
    SweepCompletes o s

/-! ### Settings and reservoir (R96, R98, R102, R171) -/

/-- Every setting lies in its range, Q_READY at least 16 above Q_FLOOR (R102, R171). -/
structure SettingsInRange (x : Settings) : Prop where
  baseRaise : 200 ≤ x.baseRaiseUs ∧ x.baseRaiseUs ≤ 2000
  baseLower : 200 ≤ x.baseLowerUs ∧ x.baseLowerUs ≤ 2000
  classStep : x.classStepPct ≤ 30
  trimStep : x.trimStepUs ≤ 32
  retry : x.retryMax ≤ 3
  defer : x.deferMs ≤ 60000
  floor : 64 ≤ x.qFloor ∧ x.qFloor ≤ 448
  ready : x.qFloor + 16 ≤ x.qReady ∧ x.qReady ≤ 512
  idle : x.chargerIdleMs ≤ 600000
  audit : x.auditMs ≤ 60000

/-- Settings and reservoir: Q within 0 to 512, 0 while OFF, 512 exactly while FULL. -/
structure ChargeOk (s : State) : Prop where
  settings : SettingsInRange s.settings
  bound : s.reservoir.q ≤ 512
  off : s.reservoir.charger = .off → s.reservoir.q = 0
  full : s.reservoir.charger = .full ↔ s.reservoir.q = 512

/-! ### Health records (R132, R142, R146, R148, R150) -/

/-- The pin of a fault map entry. -/
def faultPin (e : FaultEntry) : Line × Cell × Dot := (e.line, e.cell, e.dot)

/-- Fault map, trims and wear counts are within what their tables hold. -/
structure HealthOk (h : Health) : Prop where
  few : h.faultMap.length ≤ 64
  once : (h.faultMap.map faultPin).Nodup
  trims : ∀ b, -32 ≤ h.trims.get b ∧ h.trims.get b ≤ 31
  wear : ∀ i, h.wear.get i ≤ 4294967295

/-- The working tables, the stored record and the snapshot of a commit in flight; while a commit is in
flight the stored record is neither blank nor valid (R150). -/
structure TablesOk (s : State) : Prop where
  working : HealthOk s.health
  stored : ∀ c, s.store.stored = .whole c → HealthOk c.record.health
  snapshot : ∀ c, s.store.commit = some c → HealthOk c.record.health
  writing : s.store.commit.isSome → s.store.stored = .unfinished

/-! ### Pane table (R33, R43) -/

/-- The records cover the lines from `n` to 23, one after the other. -/
def panesCover : Nat → List Pane → Prop
  | n, [] => n = 24
  | n, p :: rest => p.first.val = n ∧ p.first ≤ p.last ∧ panesCover (p.last.val + 1) rest

/-- Every line belongs to exactly one pane, and no two records have the same id (R33). -/
structure PanesOk (panes : List Pane) : Prop where
  some : panes ≠ []
  cover : panesCover 0 panes
  ids : (panes.map (·.id)).Nodup

/-- The pane table, with PATRON owning nothing while presence is absent (R42, R43). -/
structure PaneTableOk (s : State) : Prop where
  table : PanesOk s.panes
  patron : s.ports.presence = false → ∀ p ∈ s.panes, p.owner ≠ .patron

/-! ### Ports (R155, R161, R162, R176) -/

/-- Replies of a port that have not been sent in full. -/
def Port.replies (p : Port) : Nat :=
  p.queue.countP (fun m => !isNotice m) + (p.sending.any isReplyFrame).toNat

/-- One port: at most 512 bytes held, at most 8 waiting notices, at most one reply outstanding, and a
queue that waits only behind a frame in sending. -/
structure PortOk (p : Port) : Prop where
  held : p.held ≤ 512
  waiting : p.waiting ≤ 8
  replies : p.replies ≤ 1
  sending : p.sending = none → p.queue = []

/-- Both ports; the patron port is empty while presence is absent (R155). That both are empty on a board without
power is the model's choice (log entry 7). -/
structure PortsOk (s : State) : Prop where
  station : PortOk s.ports.station
  patron : PortOk s.ports.patron
  absent : s.ports.presence = false → s.ports.patron = freshPort
  unpowered : s.stage = .unpowered → s.ports.station = freshPort ∧ s.ports.patron = freshPort

/-! ### Start-up and zones (R32, R33, R49, R50, R64, R103) -/

/-- While a record is loaded, the engine, the pane table, the writer, the reservoir and the module interface
have the values they take at the start, and no RESET or commit waits (R32, R33, R64, R103). That a board
without power holds these values too is the model's choice (log entry 7). -/
structure LoadOk (s : State) : Prop where
  engine : s.engine = initialEngine
  panes : s.panes = initialPanes
  writer : s.writer = initialWriter
  reservoir : s.reservoir = initialReservoir
  quiet : s.modules.operation = none
  reset : s.ports.resetWait = none
  commit : s.store.commit = none

/-- A zone's reading is present exactly in ARMING and TOUCHED (R50). -/
def zoneAgrees (z : Zone) : Prop := z.present = true ↔ z.state = .arming ∨ z.state = .touched

/-- Start-up and zones: the values during a load, the zones in step with their readings once they are
read, the zones of ABSENT modules CLEAR (R49). `load` and `unread` speak of a board without power too, by the
model's choice (log entry 7). -/
structure StartOk (s : State) : Prop where
  load : s.loading = true → LoadOk s
  zones : s.zonesReached = true → ∀ z, zoneAgrees (s.zones.get z)
  absent : s.zonesReached = true → ∀ z, s.lineModule (zoneLine z) = .absent →
    s.zones.get z = ⟨.clear, false⟩
  unread : s.zonesReached = false → ∀ z, (s.zones.get z).state = .clear

/-! ### Refresh engine (R14, R15, R31, R111) -/

/-- A stroke is in flight. -/
abbrev State.striking (s : State) : Prop := s.strokeInFlight.isSome = true

/-- A sense pass is in flight. -/
abbrev State.senses (s : State) : Prop := s.quiet = false ∧ s.strokeInFlight = none

/-- The engine's own operations: what is in flight, and on whose behalf. -/
def operationOwned (s : State) : Prop :=
  match s.modules.operation with
  | none => True
  | some (.stroke r) =>
    (∃ c, s.engine.current = some c ∧ c.line = r.line) ∨ ∃ w, s.engine.cancelled = some w ∧ w.line = r.line
  | some (.sense .pre l) =>
    (∃ c, s.engine.current = some c ∧ c.line = l) ∨ ∃ w, s.engine.cancelled = some w ∧ w.line = l
  | some (.sense .verify l) =>
    (∃ c, s.engine.current = some c ∧ c.line = l) ∨ ∃ w, s.engine.cancelled = some w ∧ w.line = l
  | some (.sense .cancel l) => ∃ w, s.engine.cancelled = some w ∧ w.line = l
  | some (.sense .sweep _) => s.stage = .sweeping ∧ s.engine.current = none ∧ s.engine.cancelled = none
  | some (.sense .audit _) => s.stage = .running ∧ s.engine.current = none ∧ s.engine.cancelled = none
  | some (.sense .return l) =>
    s.stage = .running ∧ s.engine.current = none ∧ s.engine.cancelled = none ∧ l ∈ s.engine.returnList

/-- The refresh engine: the queue of R14, the current line, the stroke record's module (R83), the states of R31,
the audit interval, the lines that wait for a return sense or the sweep, and what stands before the sweep has
completed, the generation 0 among it (R32). -/
structure EngineOk (s : State) : Prop where
  closed : s.engine.refresh = none →
    s.engine.queue = [] ∧ s.engine.current = none ∧ s.engine.cancelled = none
  once : s.engine.queue.Nodup
  service : ∀ l ∈ s.engine.queue, s.lineInService l = true
  current : ∀ c, s.engine.current = some c → c.line ∈ s.engine.queue
  cancelled : ∀ w, s.engine.cancelled = some w → s.engine.current = none ∧
    s.modules.operation.map operationLine = some w.line
  owned : operationOwned s
  strokeModule : ∀ r, s.modules.operation = some (.stroke r) → r.module = moduleOf r.line
  operating : ∀ op, s.modules.operation = some op → s.lineInService (operationLine op) = true
  started : s.engine.refresh.isSome → s.stage = .running
  striking : s.stage = .running → (s.engine.state = .striking ↔ s.striking)
  sensing : s.stage = .running → (s.engine.state = .sensing ↔ s.senses)
  charging : s.engine.state = .charging ↔ s.engine.current.isSome ∧ s.quiet = true
  deferred : s.engine.state = .deferred → s.engine.refresh.isSome ∧ s.engine.queue = []
  held : s.engine.state = .held → s.engine.refresh.isSome ∧ s.engine.queue ≠ [] ∧ s.nextReady = none
  idle : s.engine.state = .idle → s.engine.refresh = none
  audit : s.engine.auditInterval.isSome → s.engine.refresh = none
  returns : s.engine.state = .idle ∨ s.engine.state = .deferred ∨ s.engine.state = .held →
    s.engine.returnList = []
  returnService : ∀ l ∈ s.engine.returnList, s.lineInService l = true
  waitingService : s.stage = .sweeping → ∀ l, s.engine.sweepWaiting.get l = true →
    s.lineInService l = true
  before : s.stage ≠ .running → s.engine.returnList = [] ∧ s.engine.auditInterval = none ∧
    (∀ z, s.engine.stale.get z = false) ∧ s.engine.generation = 0

end Sys2Proof.Machine
end

