-- ==== Sys2Proof/Certificates/Slice0/Obligations.lean ====
section
/-!
DEFINITION. The statements about the 2440 for the provers, in the order of OBLIGATIONS.json.
-/

open Sys2Proof Sys2Proof.Machine

/-! ### Commands and requests -/

/-- A step takes the command at the front of the queue and is that command's effect on the state with the
queue's rest. -/
def Obligations.StepExecutesTheFrontCommand : Prop :=
  ∀ (c : Instr) (rest : List Instr) (s : State),
    step (s.setPending (c :: rest)) = exec c (s.setPending rest)

/-- The model's choice (log entries 9 and 10): with no command waiting the block stays as it is, but that the
status-line writer makes its next answer where a prompt is still raised. No command faults,
none touches the queue, and a command is refused only as one that cannot arise or, where it takes a frame,
as one its handler cannot take now (log entries 1 and 2). -/
def Obligations.CommandsStopByNameAndKeepTheQueue : Prop :=
  (∀ s : State, s.pending = [] →
    step s = .next s.answerPrompt ∧ (s.writer.prompt = false → step s = .next s)) ∧
  ∀ (c : Instr) (s : State),
    (∀ f, exec c s ≠ .fault f) ∧
    (∀ t, exec c s = .next t → t.pending = s.pending) ∧
    (∀ r, exec c s = .refused r → r = if takesFrame c then .notAtHandler else .cannotArise)

/-- R162, R179: the frame a handler can take is the oldest complete one of its port, while the port is in service,
its last reply has been sent in full and no RESET waits. A request that a handler can take is taken: its frame
leaves the buffer, and a reply of its port is to be sent. -/
def Obligations.TakenRequestLeavesBufferAndIsAnswered : Prop :=
  (∀ (l : Link) (f : Frame) (s : State), s.takeable l = some f ↔
    s.stage ≠ .unpowered ∧ (l = .patron → s.ports.presence = true) ∧ s.ports.resetWait = none ∧
    (s.port l).replyOutstanding = false ∧ ∃ rest, (s.port l).frames = f :: rest) ∧
  ∀ (c : Instr) (l : Link) (k : RequestKind) (f : Frame) (s : State),
    requestOf c = some (l, k) → s.takeable l = some f → f.kind = kindCode k →
    ∃ t, exec c s = .next t ∧ (t.port l).frames = (s.port l).frames.tail ∧
      (t.port l).replyOutstanding = true

/-- R163: the checks of the screening. Check 1: a frame whose kind byte is none of the 20 request kinds is
refused UNKNOWN_KIND, whatever the stage. Checks 2 to 4, in their order, for every request row, with the code of
each kind (R165) and the payload lengths it allows (R164). That
UNKNOWN_KIND_REQUEST answers `notAtHandler` for a frame of a request kind is the model's own stop (log entry
2, DESIGN CHOICE). -/
def Obligations.ScreeningRefusesInItsOrder : Prop :=
  (∀ (l : Link) (f : Frame) (s : State), s.takeable l = some f →
    ((f.kind.toNat = 0 ∨ 20 < f.kind.toNat) →
      exec (.unknownKindRequest l) s = .next (s.turnedAway l f .unknownKind)) ∧
    (1 ≤ f.kind.toNat ∧ f.kind.toNat ≤ 20 →
      exec (.unknownKindRequest l) s = .refused .notAtHandler)) ∧
  ∀ (c : Instr) (l : Link) (k : RequestKind) (f : Frame) (s : State),
    requestOf c = some (l, k) → s.takeable l = some f → f.kind = kindCode k →
    let stationAlone := k = .set ∨ k = .paneSplit ∨ k = .paneMerge ∨ k = .faultClear ∨
      k = .recordCommit ∨ k = .moduleReset ∨ k = .reset
    let open_ := s.stage = .running ∨ (s.stage = .sweeping ∧ (k = .identify ∨ k = .status))
    (stationAlone ∧ l = .patron → exec c s = .next (s.turnedAway l f .notPermitted)) ∧
    (¬ (stationAlone ∧ l = .patron) → ¬ open_ → exec c s = .next (s.turnedAway l f .notReady)) ∧
    let allowed (n : Nat) : RequestKind → Prop := fun
      | .identify | .status | .paneList | .trimList | .recordCommit | .reset => n = 0
      | .get | .paneMerge | .faultList | .moduleReset => n = 1
      | .readImage | .paneSplit | .paneGrant => n = 2
      | .fillLines | .wearRead => n = 3
      | .set => n = 5
      | .show_ | .cancel => n = 0 ∨ n = 1
      | .faultClear => n = 0 ∨ n = 3
      | .writeCells => 3 ≤ n
    let code : RequestKind → Byte := fun
      | .identify => 0x01 | .status => 0x02 | .get => 0x03 | .set => 0x04 | .writeCells => 0x05
      | .fillLines => 0x06 | .show_ => 0x07 | .cancel => 0x08 | .readImage => 0x09 | .paneList => 0x0A
      | .paneSplit => 0x0B | .paneMerge => 0x0C | .paneGrant => 0x0D | .faultList => 0x0E
      | .faultClear => 0x0F | .trimList => 0x10 | .wearRead => 0x11 | .recordCommit => 0x12
      | .moduleReset => 0x13 | .reset => 0x14
    f.kind = code k ∧
    (¬ (stationAlone ∧ l = .patron) → open_ → ¬ allowed f.payload.length k →
      exec c s = .next (s.turnedAway l f .badLength)) ∧
    (¬ (stationAlone ∧ l = .patron) → open_ → allowed f.payload.length k → Takes s l k f)

/-- What an answer and a refusal do, and all they do (R158, R162, R163): the frame taken leaves the receive
buffer; the reply joins the transmit queue, or begins to be sent where nothing is in sending and nothing
waits; a refusal sets the link's last refusal reason. Nothing else in the 2440 changes. -/
def Obligations.AnswerTouchesOnlyItsPort : Prop :=
  ∀ (s : State) (l : Link) (f : Frame) (r : Reply) (why : Reason),
    let p := s.port l
    let after (q : Port) (m : Message) : Port :=
      if q.sending.isNone ∧ q.queue = [] then { q with sending := some (messageFrame m) }
      else { q with queue := q.queue ++ [m] }
    (p.sending = none → p.queue = []) →
    s.answered l f r =
        s.setPort l (after { p with frames := p.frames.tail } (.reply f.tag r)) ∧
    s.turnedAway l f why =
        s.setPort l { after { p with frames := p.frames.tail } (.reply f.tag (.refused f.kind why)) with
          lastRefusal := why } ∧
    (∀ k q, k ≠ l → (s.setPort l q).port k = s.port k) ∧
    (∀ q, (s.setPort l q).ports.presence = s.ports.presence ∧
      (s.setPort l q).ports.resetWait = s.ports.resetWait ∧
      s.setPort l q = s.setPorts (s.setPort l q).ports)

/-! ### Requests that only read -/

/-- IDENTIFY, PANE_LIST and TRIM_LIST answer with the state as it stands and do nothing else (R33, R145,
R169). The payload of every reply and notice, byte by byte, with the codes of its fields (R169, R175, R181); the
kind byte and the tag of every message, the check value over length, kind, tag and payload, and the bytes of a
frame (R156, R157, R163, R165). -/
def Obligations.ReadRepliesAndMessageLayouts : Prop :=
  (∀ (l : Link) (f : Frame) (s : State),
    (Takes s l .identify f →
      exec (.identify l) s =
        .next (s.answered l f (.identify s.modules.present s.store.recordState))) ∧
    (Takes s l .paneList f → exec (.paneList l) s = .next (s.answered l f (.panes s.panes))) ∧
    (Takes s l .trimList f → exec (.trimList l) s = .next (s.answered l f (.trims s.health.trims))) ∧
    (∀ (mask : Table Bool 8) (rs : RecordState), ∃ m : Byte,
      (∀ i : Fin 8, m.getLsbD i.val = mask.get i) ∧
      replyPayload (.identify mask rs) =
        [0x43, 0x61, 0x72, 0x6E, 0x65, 0x6C, 0x6F, 0x77] ++ [0x57, 0x61, 0x6C, 0x76, 0x69, 0x6B] ++
        [0x32, 0x34, 0x34, 0x30] ++ [3, 24, 40, 8, m, if rs = .loaded then 0 else 1, 8, 64, 64, 8] ++
        [2, 0] ++ [2, 0])) ∧
  let one (n : Nat) : List Byte := [BitVec.ofNat 8 n]
  let two (n : Nat) : List Byte := [BitVec.ofNat 8 (n / 256), BitVec.ofNat 8 n]
  let four (n : Nat) : List Byte := [BitVec.ofNat 8 (n / 16777216), BitVec.ofNat 8 (n / 65536),
    BitVec.ofNat 8 (n / 256), BitVec.ofNat 8 n]
  let yes (b : Bool) : Nat := if b then 1 else 0
  let owner : Identity → Nat := fun
    | .station => 0 | .patron => 1 | .localWriter => 2
  let widthClass : WidthClass → Nat := fun
    | .short => 0 | .normal => 1 | .long => 2
  let engine : EngineState → Nat := fun
    | .idle => 0 | .sensing => 1 | .charging => 2 | .striking => 3 | .deferred => 4 | .held => 5
  let charger : ChargerState → Nat := fun
    | .off => 0 | .charging => 1 | .full => 2
  let modState : ModuleState → Nat := fun
    | .absent => 0 | .starting => 1 | .ready => 2 | .hot => 3 | .faulted => 4
  let outcome : CloseOutcome → Nat := fun
    | .complete => 0 | .partialWork => 1 | .cancelled => 2 | .superseded => 3
  let fault : FaultKind → Nat := fun
    | .stuckRaised => 0 | .stuckLowered => 1
  let touch : TouchEvent → Nat := fun
    | .touched => 0 | .released => 1
  let reason : Reason → Nat := fun
    | .noReason => 0 | .unknownKind => 1 | .badLength => 2 | .outOfRange => 3 | .notPermitted => 4
    | .busy => 5 | .notReady => 6 | .panesFull => 7 | .panesMismatch => 8
  let replies (r : Reply) (bytes : List Byte) : Prop := replyPayload r = bytes
  let notices (n : Notice) (bytes : List Byte) : Prop := noticePayload n = bytes
  (∀ r : StatusReport, ∃ flags : Byte,
    replies (.status r) (one (yes r.accepting) ++ one (engine r.engine) ++ one (yes r.refreshOpen) ++
      two r.generation.toNat ++ one r.queueLength ++ one r.staleZones ++ two r.q ++ two r.v ++
      one (charger r.charger) ++ r.modules.cells.flatMap (fun m => one (modState m)) ++
      one r.faultEntries ++ one (reason r.lastRefusal) ++ [flags]) ∧
    flags.getLsbD 0 = r.flags.driveLimit ∧ flags.getLsbD 1 = r.flags.linkError ∧
    flags.getLsbD 2 = r.flags.noticesLost ∧ flags.getLsbD 3 = r.flags.faultmapFull ∧
    ∀ i, 4 ≤ i → flags.getLsbD i = false) ∧
  (∀ id v, replies (.settingValue id v) (one id ++ four v) ∧
    replies (.settingStored id v) (one id ++ four v)) ∧
  (∀ id t, replies (.settingTable id t) (one id ++ t.cells.flatMap (fun c => one (widthClass c)))) ∧
  (∀ w k, replies (.cellsWritten w k) (two w ++ two k) ∧ replies (.linesFilled w k) (two w ++ two k)) ∧
  (∀ g a b, replies (.shown g a b) (two g.toNat ++ one a ++ one b) ∧
    replies (.cancelled g a b) (two g.toNat ++ one a ++ one b)) ∧
  (∀ code ln c, replies (.image code ln c) (one code ++ one ln.val ++ c.cells)) ∧
  (∀ t, replies (.panes t) (one t.length ++ t.flatMap fun p =>
    one p.id.val ++ one p.first.val ++ one p.last.val ++ one (owner p.owner))) ∧
  (∀ id ln o, replies (.paneSplit id) (one id.val) ∧
    replies (.paneMerged id ln) (one id.val ++ one ln.val) ∧
    replies (.paneGranted id o) (one id.val ++ one (owner o))) ∧
  (∀ n start es, replies (.faults n start es) (one n ++ one start ++ es.flatMap fun e =>
    one e.line.val ++ one e.cell.val ++ one (e.dot.val + 1) ++ one (fault e.kind) ++
      two e.generation.toNat)) ∧
  (∀ a b, replies (.faultsCleared a b) (one a ++ one b)) ∧
  (∀ t, replies (.trims t) (t.cells.map (BitVec.ofInt 8))) ∧
  (∀ first cs, replies (.wear first cs) (two first ++ one cs.length ++ cs.flatMap four)) ∧
  (∀ m x, replies (.moduleReset m x) (one m.val ++ one (modState x))) ∧
  replies .recordCommit [] ∧ replies .reset [] ∧
  (∀ k why, replies (.refused k why) ([k] ++ one (reason why))) ∧
  (∀ r : CloseReport, notices (.refreshClosed r) (two r.generation.toNat ++ one (outcome r.outcome) ++
    two (min r.linesDone 65535) ++ one r.staleZones ++ one r.unsettled ++ one r.unavailable ++
    two (min r.newFaults 65535) ++ two (min r.clampCount 65535))) ∧
  (∀ ln c d k, notices (.faultRecorded ln c d k)
    (one ln.val ++ one c.val ++ one (d.val + 1) ++ one (fault k))) ∧
  (∀ m x, notices (.moduleChanged m x) (one m.val ++ one (modState x))) ∧
  (∀ z e, notices (.touch z e) (one z.val ++ one (touch e))) ∧
  notices .recordWritten [] ∧
  let replyKinds : Reply → Byte := fun
    | .identify _ _ => 0x81 | .status _ => 0x82 | .settingValue _ _ => 0x83 | .settingTable _ _ => 0x83
    | .settingStored _ _ => 0x84 | .cellsWritten _ _ => 0x85 | .linesFilled _ _ => 0x86
    | .shown _ _ _ => 0x87 | .cancelled _ _ _ => 0x88 | .image _ _ _ => 0x89 | .panes _ => 0x8A
    | .paneSplit _ => 0x8B | .paneMerged _ _ => 0x8C | .paneGranted _ _ => 0x8D | .faults _ _ _ => 0x8E
    | .faultsCleared _ _ => 0x8F | .trims _ => 0x90 | .wear _ _ => 0x91 | .recordCommit => 0x92
    | .moduleReset _ _ => 0x93 | .reset => 0x94 | .refused _ _ => 0xFF
  let noticeKinds : Notice → Byte := fun
    | .refreshClosed _ => 0x40 | .faultRecorded _ _ _ _ => 0x41 | .moduleChanged _ _ => 0x42
    | .touch _ _ => 0x43 | .recordWritten => 0x44
  let framed (m : Message) (kind tag : Byte) (payload : List Byte) : Prop :=
    messageFrame m =
      ⟨kind, tag, payload, crcOf (BitVec.ofNat 8 payload.length :: kind :: tag :: payload)⟩
  (∀ tag r, framed (.reply tag r) (replyKinds r) tag (replyPayload r)) ∧
  (∀ n, framed (.notice n) (noticeKinds n) 0 (noticePayload n)) ∧
  ∀ f : Frame, frameBytes f =
    [0xC3] ++ one f.payload.length ++ [f.kind, f.tag] ++ f.payload ++ two f.crc.toNat

/-- STATUS: every field as it stands, and the flags of the port the request came on are cleared, those of
the other port not; nothing else changes (R170). -/
def Obligations.StatusReportsAndClearsOwnFlags : Prop :=
  ∀ (l : Link) (f : Frame) (s : State), Takes s l .status f →
    ∃ r : StatusReport,
      exec (.status l) s =
        .next (((s.popFrame l).setPort l { (s.popFrame l).port l with flags := clearFlags }).sendReply l
          f.tag (.status r)) ∧
      (r.accepting = true ↔ s.stage = .running) ∧ r.engine = s.engine.state ∧
      r.refreshOpen = s.engine.refresh.isSome ∧ r.generation = s.engine.generation ∧
      r.queueLength = s.engine.queue.length ∧ r.staleZones = s.engine.stale.count ∧
      r.q = s.reservoir.q ∧ r.v = s.reservoir.q * 260 / 512 ∧ r.charger = s.reservoir.charger ∧
      (∀ m, r.modules.get m = s.moduleState m) ∧ r.faultEntries = s.health.faultMap.length ∧
      r.lastRefusal = (s.port l).lastRefusal ∧ r.flags = (s.port l).flags

/-- R172: the value of each setting; an id of 0 or above 16 is refused. -/
def Obligations.GetShowsTheWorkingSetting : Prop :=
  ∀ (l : Link) (f : Frame) (s : State) (id : Byte), f.payload = [id] → Takes s l .get f →
    let shows (n v : Nat) : Prop :=
      id.toNat = n → exec (.getSetting l) s = .next (s.answered l f (.settingValue n v))
    let lists (n : Nat) (t : Table WidthClass 16) : Prop :=
      id.toNat = n → exec (.getSetting l) s = .next (s.answered l f (.settingTable n t))
    ((id.toNat = 0 ∨ 16 < id.toNat) →
      exec (.getSetting l) s = .next (s.turnedAway l f .outOfRange)) ∧
    shows 1 s.settings.baseRaiseUs ∧ shows 2 s.settings.baseLowerUs ∧
    shows 3 s.settings.classStepPct ∧ shows 4 s.settings.trimStepUs ∧ shows 5 s.settings.retryMax ∧
    shows 6 (if s.settings.verify then 1 else 0) ∧ shows 7 (if s.settings.guard then 1 else 0) ∧
    shows 8 s.settings.deferMs ∧ shows 9 s.settings.qFloor ∧ shows 10 s.settings.qReady ∧
    shows 11 s.settings.chargerIdleMs ∧ shows 12 s.settings.auditMs ∧
    shows 13 (if s.settings.touchNotices then 1 else 0) ∧
    shows 14 (if s.settings.resetPolicy = .blank then 1 else 0) ∧
    lists 15 s.settings.raiseTable ∧ lists 16 s.settings.lowerTable

/-- R168: one line of the image the code names; a code above 2 or a line above 23 is refused. -/
def Obligations.ReadImageReturnsTheLine : Prop :=
  ∀ (l : Link) (f : Frame) (s : State) (code line : Byte), f.payload = [code, line] →
    Takes s l .readImage f →
    ((2 < code.toNat ∨ 23 < line.toNat) →
      exec (.readImage l) s = .next (s.turnedAway l f .outOfRange)) ∧
    (∀ ln : Line, line.toNat = ln.val →
      (code.toNat = 0 → exec (.readImage l) s = .next (s.answered l f (.image 0 ln (s.staging ln)))) ∧
      (code.toNat = 1 → exec (.readImage l) s = .next (s.answered l f (.image 1 ln (s.target ln)))) ∧
      (code.toNat = 2 → exec (.readImage l) s = .next (s.answered l f (.image 2 ln (s.sensed ln)))))

/-- R136: the entries from the start index onward, up to 24; a start index above 63 is refused. -/
def Obligations.FaultListShowsTheMapFromAnIndex : Prop :=
  ∀ (l : Link) (f : Frame) (s : State) (start : Byte), f.payload = [start] → Takes s l .faultList f →
    (63 < start.toNat → exec (.faultList l) s = .next (s.turnedAway l f .outOfRange)) ∧
    (start.toNat ≤ 63 → ∃ es : List FaultEntry,
      exec (.faultList l) s =
        .next (s.answered l f (.faults s.health.faultMap.length start.toNat es)) ∧
      es.length = min 24 (s.health.faultMap.length - start.toNat) ∧
      ∀ i, i < es.length → es[i]? = s.health.faultMap[start.toNat + i]?)

/-- R147: the counts from the first cell on, as many as the clamped count; a first cell above 959 is
refused. -/
def Obligations.WearReadShowsClampedCounts : Prop :=
  ∀ (l : Link) (f : Frame) (s : State) (hi lo count : Byte), f.payload = [hi, lo, count] →
    Takes s l .wearRead f →
    let first := 256 * hi.toNat + lo.toNat
    (959 < first → exec (.wearRead l) s = .next (s.turnedAway l f .outOfRange)) ∧
    (first ≤ 959 → ∃ counts : List Nat,
      exec (.wearRead l) s = .next (s.answered l f (.wear first counts)) ∧
      counts.length = min (max 1 (min 48 count.toNat)) (960 - first) ∧
      ∀ i (h : first + i < 960), i < counts.length → counts[i]? = some (s.health.wear.get ⟨first + i, h⟩))

/-! ### SET -/

/-- R102, R173: what a SET stores, id by id, and what it answers; an id of 0 or above 16, an entry index
above 15 or a class code above 2 is refused and nothing is stored. Of a setting that no block reads at
once the SET does nothing else. -/
def Obligations.SetClampsStoresAndAnswers : Prop :=
  ∀ (f : Frame) (s : State) (id a b c d : Byte), f.payload = [id, a, b, c, d] →
    Takes s .station .set f → s.writer.prompt = false →
    let v := ((a.toNat * 256 + b.toNat) * 256 + c.toNat) * 256 + d.toNat
    let x := s.settings
    let quietly (n stored : Nat) (y : Settings) : Prop :=
      id.toNat = n → exec (.setSetting .station) s =
        .next ((s.answered .station f (.settingStored n stored)).setSettings y)
    let stores (n stored : Nat) (y : Settings) : Prop :=
      id.toNat = n → ∃ t, exec (.setSetting .station) s = .next t ∧ t.settings = y ∧
        t.ports.station.carries (.reply f.tag (.settingStored n stored))
    let refused : Prop := exec (.setSetting .station) s = .next (s.turnedAway .station f .outOfRange)
    let held (lo hi : Nat) : Nat := max lo (min hi v)
    ((id.toNat = 0 ∨ 16 < id.toNat) → refused) ∧
    quietly 1 (held 200 2000) { x with baseRaiseUs := held 200 2000 } ∧
    quietly 2 (held 200 2000) { x with baseLowerUs := held 200 2000 } ∧
    quietly 3 (held 0 30) { x with classStepPct := held 0 30 } ∧
    quietly 4 (held 0 32) { x with trimStepUs := held 0 32 } ∧
    quietly 5 (held 0 3) { x with retryMax := held 0 3 } ∧
    quietly 6 (held 0 1) { x with verify := v != 0 } ∧
    quietly 7 (held 0 1) { x with guard := v != 0 } ∧
    stores 8 (held 0 60000) { x with deferMs := held 0 60000 } ∧
    stores 9 (held 64 448)
      { x with qFloor := held 64 448, qReady := max x.qReady (held 64 448 + 16) } ∧
    stores 10 (held (x.qFloor + 16) 512) { x with qReady := held (x.qFloor + 16) 512 } ∧
    stores 11 (held 0 600000) { x with chargerIdleMs := held 0 600000 } ∧
    stores 12 (held 0 60000) { x with auditMs := held 0 60000 } ∧
    quietly 13 (held 0 1) { x with touchNotices := v != 0 } ∧
    quietly 14 (held 0 1) { x with resetPolicy := if v = 0 then .hold else .blank } ∧
    ((id.toNat = 15 ∨ id.toNat = 16) → (15 < v / 256 ∨ 2 < v % 256) → refused) ∧
    (∀ (i : Fin 16) (k : WidthClass), v / 256 = i.val → v % 256 = classCode k →
      quietly 15 v { x with raiseTable := x.raiseTable.set i k } ∧
      quietly 16 v { x with lowerTable := x.lowerTable.set i k })

/-- R85, R86, R101, R102, R174: the settings that act at their SET. With no refresh open and the charger not
OFF a fresh idle interval; while IDLE a fresh audit interval; an absent deadline of an open refresh with stale
zones; and DEFER_MS 0 while DEFERRED on a stale zone closes the refresh. A SET of Q_FLOOR or Q_READY is compared
with Q at once where a packing point waits: with Q below the new Q_READY the wait goes on; with Q at least that,
the wait ends with the packing event, which fires the stroke formed then, or, with no candidate left or the
module HOT, with what follows the packing point (PacksFrom). Where none
waits, only the settings change. -/
def Obligations.SettingsThatActAtTheirSet : Prop :=
  ∀ (f : Frame) (s : State) (id a b c d : Byte), f.payload = [id, a, b, c, d] →
    Takes s .station .set f → s.writer.prompt = false →
    let v := ((a.toNat * 256 + b.toNat) * 256 + c.toNat) * 256 + d.toNat
    let timer (hi : Nat) : Option Nat := if v = 0 then none else some (min hi v)
    (id.toNat = 11 → ∃ t, exec (.setSetting .station) s = .next t ∧ t.engine = s.engine ∧
      t.reservoir.q = s.reservoir.q ∧ t.reservoir.charger = s.reservoir.charger ∧
      t.reservoir.idle = if s.engine.refresh = none ∧ s.reservoir.charger ≠ .off then timer 600000
        else s.reservoir.idle) ∧
    (id.toNat = 12 → ∃ t, exec (.setSetting .station) s = .next t ∧ t.reservoir = s.reservoir ∧
      t.engine = if s.engine.state = .idle then { s.engine with auditInterval := timer 60000 }
        else s.engine) ∧
    (id.toNat = 8 → v ≠ 0 → ∃ t, exec (.setSetting .station) s = .next t ∧
      t.reservoir = s.reservoir ∧
      t.engine = if s.engine.stale.count = 0 then s.engine else
        { s.engine with refresh := s.engine.refresh.map fun r =>
          if r.deadline = none ∧ r.expired = false then { r with deadline := timer 60000 } else r }) ∧
    (id.toNat = 8 → v = 0 → s.engine.state ≠ .deferred →
      ∃ t, exec (.setSetting .station) s = .next t ∧ t.engine = s.engine ∧ t.reservoir = s.reservoir) ∧
    (id.toNat = 8 → v = 0 → s.engine.state = .deferred → 0 < s.engine.stale.count →
      s.ownedLines .localWriter = [] → s.engine.refresh.isSome →
      ∃ t, exec (.setSetting .station) s = .next t ∧ t.engine.refresh = none ∧
        t.engine.stale = s.engine.stale ∧ t.engine.generation = s.engine.generation) ∧
    let held (lo hi : Nat) : Nat := max lo (min hi v)
    let compares (n stored : Nat) (y : Settings) : Prop := id.toNat = n →
      let told : State := (s.answered .station f (.settingStored n stored)).setSettings y
      ((s.engine.state ≠ .charging ∨ s.engine.current = none ∨ s.reservoir.q < y.qReady) →
        exec (.setSetting .station) s = .next told) ∧
      (∀ c, s.engine.state = .charging → s.engine.current = some c → y.qReady ≤ s.reservoir.q →
        exec (.setSetting .station) s = .next (State.andChoose (told.packingPoint c)).settle ∧
        PacksFrom (exec (.setSetting .station) s) told c ∧
        (s.lineModule c.line ≠ .hot → s.hasCandidate c = true →
          exec (.setSetting .station) s = .next (told.fire c (told.formStroke c))))
    compares 9 (held 64 448)
      { s.settings with
        qFloor := held 64 448, qReady := max s.settings.qReady (held 64 448 + 16) } ∧
    compares 10 (held (s.settings.qFloor + 16) 512)
      { s.settings with qReady := held (s.settings.qFloor + 16) 512 }

/-! ### Writes to staging -/

/-- R39, R166: the checks of WRITE_CELLS, the cells it writes when the sender owns the line, and what it
answers; nothing but those staging bytes and the sender's port changes. -/
def Obligations.WriteCellsWritesOwnedStaging : Prop :=
  ∀ (l : Link) (f : Frame) (s : State) (line first count : Byte) (bytes : List Byte),
    f.payload = line :: first :: count :: bytes → Takes s l .writeCells f →
    let named := if count = 0 then 40 - first.toNat else count.toNat
    let n := min named (40 - first.toNat)
    ((23 < line.toNat ∨ 39 < first.toNat) →
      exec (.writeCells l) s = .next (s.turnedAway l f .outOfRange)) ∧
    (line.toNat ≤ 23 → first.toNat ≤ 39 → bytes.length ≠ named →
      exec (.writeCells l) s = .next (s.turnedAway l f .badLength)) ∧
    (∀ ln : Line, line.toNat = ln.val → first.toNat ≤ 39 → bytes.length = named →
      (s.owns (linkIdentity l) ln = false →
        exec (.writeCells l) s = .next (s.answered l f (.cellsWritten 0 n))) ∧
      (s.owns (linkIdentity l) ln = true → ∃ page : PageStore,
        exec (.writeCells l) s = .next ((s.setPage page).answered l f (.cellsWritten n 0)) ∧
        page.target = s.page.target ∧ page.sensed = s.page.sensed ∧ page.fresh = s.page.fresh ∧
        page.struck = s.page.struck ∧
        ∀ (ln' : Line) (c : Cell), (page.staging.get ln').get c =
          if ln' = ln ∧ first.toNat ≤ c.val ∧ c.val < first.toNat + n then
            bytes.getD (c.val - first.toNat) 0
          else (s.staging ln').get c))

/-- R40, R167: FILL_LINES fills the owned lines of its range and skips the others; its checks; nothing but
those staging bytes and the sender's port changes. -/
def Obligations.FillLinesFillsOwnedLines : Prop :=
  ∀ (l : Link) (f : Frame) (s : State) (first last byte : Byte), f.payload = [first, last, byte] →
    Takes s l .fillLines f →
    let hit (ln : Line) : Bool := decide (first.toNat ≤ ln.val) && decide (ln.val ≤ last.toNat)
    let written := 40 * (allLines.countP fun ln => hit ln && s.owns (linkIdentity l) ln)
    let skipped := 40 * (allLines.countP fun ln => hit ln && !s.owns (linkIdentity l) ln)
    ((23 < last.toNat ∨ last.toNat < first.toNat) →
      exec (.fillLines l) s = .next (s.turnedAway l f .outOfRange)) ∧
    (first.toNat ≤ last.toNat → last.toNat ≤ 23 → ∃ page : PageStore,
      exec (.fillLines l) s = .next ((s.setPage page).answered l f (.linesFilled written skipped)) ∧
      written + skipped = 40 * (last.toNat - first.toNat + 1) ∧
      page.target = s.page.target ∧ page.sensed = s.page.sensed ∧ page.fresh = s.page.fresh ∧
      page.struck = s.page.struck ∧
      ∀ ln : Line, page.staging.get ln =
        if hit ln = true ∧ s.owns (linkIdentity l) ln = true then Table.fill byte else s.staging ln)

/-! ### SHOW and CANCEL -/

/-- R8, R27: the scope of SHOW and CANCEL, and their refusals. -/
def Obligations.ShowAndCancelScopeIsChecked : Prop :=
  ∀ (l : Link) (f : Frame) (s : State), (Takes s l .show_ f ∨ Takes s l .cancel f) →
    let refused (why : Reason) : Prop :=
      (Takes s l .show_ f → exec (.showPanes l) s = .next (s.turnedAway l f why)) ∧
      (Takes s l .cancel f → exec (.cancel l) s = .next (s.turnedAway l f why))
    (f.payload = [] → ∃ lines, s.scope (linkIdentity l) f.payload = .ok lines ∧
      ∀ ln, ln ∈ lines ↔ ∃ p ∈ s.panes, p.owner = linkIdentity l ∧ p.first ≤ ln ∧ ln ≤ p.last) ∧
    (∀ id, f.payload = [id] → (∀ p ∈ s.panes, p.id.val ≠ id.toNat) → refused .outOfRange) ∧
    (∀ id p, f.payload = [id] → p ∈ s.panes → p.id.val = id.toNat → (s.panes.map (·.id)).Nodup →
      (p.owner ≠ linkIdentity l → refused .notPermitted) ∧
      (p.owner = linkIdentity l → ∃ lines, s.scope (linkIdentity l) f.payload = .ok lines ∧
        ∀ ln, ln ∈ lines ↔ p.first ≤ ln ∧ ln ≤ p.last))

/-- R3, R8, R12, R28: a SHOW copies staging into target on the lines of its scope. It changes no other line's
target and no staging, but for the lines of LOCAL, which the status-line writer may write at the event's end;
it changes no sensed content, and nothing beside the engine. The current line stays: where it is in the scope,
the pins whose target state changed have attempt count 0 and are retargeted; its other pins, its round number,
its phase and its fresh flag are kept. A copy pending from a CANCEL on a line of the scope is dropped. -/
def Obligations.ShowCopiesStagingIntoTarget : Prop :=
  ∀ (l : Link) (f : Frame) (s : State) (lines : List Line), PanesOk s.panes → Takes s l .show_ f →
    s.scope (linkIdentity l) f.payload = .ok lines →
    ∃ t, exec (.showPanes l) s = .next t ∧ (∀ ln ∈ lines, t.target ln = s.staging ln) ∧
      (∀ ln, ln ∉ lines → s.owns .localWriter ln = false → t.target ln = s.target ln) ∧
      (∀ ln, s.owns .localWriter ln = false → t.staging ln = s.staging ln) ∧
      t.page.sensed = s.page.sensed ∧ SameBesideEngine s t ∧ t.stage = s.stage ∧
      (s.writer.prompt = false → (s.quiet = false ∨ s.engine.current.isSome) →
        t.page.fresh = s.page.fresh ∧ t.page.struck = s.page.struck ∧
        (s.engine.current = none → t.engine.current = none) ∧
        (∀ c, s.engine.current = some c → ∃ pins, t.engine.current = some
          ⟨c.line, ⟨c.round.number, c.round.phase, pins⟩⟩ ∧ ∀ p, pins.get p =
            if c.line ∈ lines ∧ pinState (s.staging c.line) p ≠ pinState (s.target c.line) p then
              { c.round.pins.get p with attempts := 0, retargeted := true }
            else c.round.pins.get p) ∧
        t.engine.cancelled = s.engine.cancelled.map fun w =>
          if w.line ∈ lines then { w with copyDue := false } else w)

/-- R9, R10, R13, R15, R98, R101: a SHOW that finds no dirty line opens and touches no refresh. One that finds a
dirty line with no refresh open, whatever the engine does then, opens one: the generation advances by 1, the
record is that of R13 with the sender as its one requester, the dirty lines of modules in service are queued in
ascending order and the others are its unavailable lines, the audit interval is abandoned, and the charger, if
it is OFF, starts. Then the engine chooses, if it may, as an IDLE engine with nothing in flight does. Where an
operation is in flight (an audit sense) this is all. What a SHOW does to a refresh that is open says
DirtyShowMergesIntoTheRefresh. In the clauses that assume that LOCAL owns no pane no commit of the status-line
writer follows. -/
def Obligations.ShowOpensARefreshWhenDirty : Prop :=
  ∀ (l : Link) (f : Frame) (s : State) (lines : List Line), Takes s l .show_ f →
    s.scope (linkIdentity l) f.payload = .ok lines →
    let dirty (ln : Line) : Prop := s.target ln ≠ s.staging ln ∨
      ∃ p, pinState (s.staging ln) p ≠ pinState (s.sensed ln) p ∧ s.faultMapped ln p = false
    ((∃ ln ∈ lines, dirty ln) → s.engine.refresh = none →
      ∃ (u : State) (target : Image) (unavailable : LineSet),
        (∀ ln, target.get ln = if ln ∈ lines then s.staging ln else s.target ln) ∧
        (∀ ln, unavailable.get ln = true ↔ ln ∈ lines ∧ dirty ln ∧ s.lineInService ln = false) ∧
        (u.engine.current = none ↔ s.engine.current = none) ∧
        (u.engine.cancelled = none ↔ s.engine.cancelled = none) ∧
        u = (((s.answered l f (.shown (s.engine.generation + 1)
            (lines.countP fun ln => s.dirtyLine ln && s.lineInService ln)
            (lines.countP fun ln => s.dirtyLine ln && !s.lineInService ln))).setPage
          { s.page with target := target }).setEngine
          { s.engine with
            generation := s.engine.generation + 1
            queue := s.engine.queue ++ lines.filter (fun ln =>
              s.dirtyLine ln && s.lineInService ln && !s.engine.queue.contains ln)
            refresh := some ⟨⟨decide (l = .station), decide (l = .patron), false⟩, none, false, 0, 0, 0,
              Table.fill false, unavailable⟩
            auditInterval := none
            current := u.engine.current
            cancelled := u.engine.cancelled }).setReservoir
          ⟨if s.reservoir.charger = .off then 0 else s.reservoir.q,
            if s.reservoir.charger = .off then .charging else s.reservoir.charger, none⟩ ∧
        ChoosesFrom (exec (.showPanes l) s) u) ∧
    (lines.Pairwise (· < ·)) ∧
    (s.ownedLines .localWriter = [] → (∀ ln ∈ lines, ¬ dirty ln) → ∃ t,
      exec (.showPanes l) s = .next t ∧ t.page = s.page ∧
      t.engine.refresh = s.engine.refresh ∧ t.engine.queue = s.engine.queue ∧
      t.engine.generation = s.engine.generation ∧ t.engine.state = s.engine.state ∧
      t.reservoir = s.reservoir ∧
      (t.port l).carries (.reply f.tag (.shown s.engine.generation 0 0))) ∧
    (s.ownedLines .localWriter = [] → (∃ ln ∈ lines, dirty ln) → s.engine.refresh = none →
      ∃ t queued unavailable,
      exec (.showPanes l) s = .next t ∧ t.engine.generation = s.engine.generation + 1 ∧
      t.reservoir.charger ≠ .off ∧
      queued + unavailable = lines.countP s.dirtyLine ∧
      queued = lines.countP (fun ln => s.dirtyLine ln && s.lineInService ln) ∧
      (t.port l).carries (.reply f.tag (.shown (s.engine.generation + 1) queued unavailable)) ∧
      (s.quiet = false → ∃ r : Refresh, t.engine.refresh = some r ∧
        r.requesters = ⟨decide (l = .station), decide (l = .patron), false⟩ ∧ r.deadline = none ∧
        r.expired = false ∧ r.linesDone = 0 ∧ r.newFaults = 0 ∧ r.clampCount = 0 ∧
        (∀ ln, r.unsettled.get ln = false) ∧
        (∀ ln, r.unavailable.get ln = true ↔ ln ∈ lines ∧ dirty ln ∧ s.lineInService ln = false) ∧
        t.engine.queue = s.engine.queue ++ lines.filter (fun ln =>
          s.dirtyLine ln && s.lineInService ln && !s.engine.queue.contains ln) ∧
        t.engine.auditInterval = none ∧ t.engine.state = s.engine.state ∧
        t.engine.stale = s.engine.stale ∧ t.engine.returnList = s.engine.returnList ∧
        t.reservoir = ⟨if s.reservoir.charger = .off then 0 else s.reservoir.q,
          if s.reservoir.charger = .off then .charging else s.reservoir.charger, none⟩ ∧
        t.modules = s.modules ∧ t.health = s.health)) ∧
    (∀ ln, s.dirtyLine ln = true ↔ dirty ln)

/-- R11: a SHOW with a dirty line while a refresh is open, in whatever state the engine is: the generation, the
requesters, the counts, the queue and the deadline of the merged refresh, the engine's state, and
REFRESH_CLOSED with SUPERSEDED to the requesters it had, behind the reply. With an operation in flight, and in
CHARGING, nothing more follows; an engine in DEFERRED that has received a line chooses, and so does one in
HELD, which takes the first queued line whose module is READY, if the merge has brought one, and else is HELD
as before. -/
def Obligations.DirtyShowMergesIntoTheRefresh : Prop :=
  ∀ (l : Link) (f : Frame) (s : State) (lines : List Line) (r : Refresh), Takes s l .show_ f →
    s.scope (linkIdentity l) f.payload = .ok lines → s.engine.refresh = some r →
    (∃ ln ∈ lines, s.dirtyLine ln = true) →
    let after := (s.answered l f (.shown (s.engine.generation + 1)
      (lines.countP fun ln => s.dirtyLine ln && s.lineInService ln)
      (lines.countP fun ln => s.dirtyLine ln && !s.lineInService ln))).ports
    let superseded : Notice := .refreshClosed ⟨s.engine.generation, .superseded, r.linesDone,
      s.engine.stale.count, r.unsettled.count, r.unavailable.count, r.newFaults, r.clampCount⟩
    ∃ t r', ChoosesFrom (exec (.showPanes l) s) t ∧
      ((s.quiet = false ∨ s.engine.current.isSome) → s.writer.prompt = false →
        exec (.showPanes l) s = .next t) ∧
      (s.quiet = true → s.engine.current = none →
        (s.engine.state = .deferred → ∃ ln ∈ lines, s.dirtyLine ln = true ∧ s.lineInService ln = true) →
        exec (.showPanes l) s = .next t.choose.settle) ∧
      (EngineOk s → s.engine.state = .held →
        (∀ ln ∈ lines, s.dirtyLine ln = true → s.lineModule ln ≠ .ready) → s.writer.prompt = false →
        exec (.showPanes l) s = .next t) ∧
      t.engine.refresh = some r' ∧
      t.engine.generation = s.engine.generation + 1 ∧ t.engine.state = s.engine.state ∧
      r'.requesters =
        ⟨r.requesters.station || decide (l = .station), r.requesters.patron || decide (l = .patron),
          r.requesters.localWriter⟩ ∧
      r'.linesDone = 0 ∧ r'.newFaults = 0 ∧ r'.clampCount = 0 ∧ r'.expired = false ∧
      r'.unsettled = r.unsettled ∧
      (r'.deadline = if s.engine.stale.count = 0 ∨ s.settings.deferMs = 0 then none
        else some s.settings.deferMs) ∧
      t.engine.queue = s.engine.queue ++ lines.filter (fun ln =>
        s.dirtyLine ln && s.lineInService ln && !s.engine.queue.contains ln) ∧
      (∀ ln, r'.unavailable.get ln =
        if ln ∈ lines ∧ s.dirtyLine ln = true then !s.lineInService ln else r.unavailable.get ln) ∧
      t.ports = { after with
        station :=
          if r.requesters.station = true then after.station.pushNotice superseded else after.station
        patron :=
          if r.requesters.patron = true ∧ s.ports.presence = true then
            after.patron.pushNotice superseded
          else after.patron } ∧
      t.modules = s.modules ∧ t.reservoir = s.reservoir ∧ t.health = s.health ∧ t.panes = s.panes ∧
      t.settings = s.settings ∧ t.zones = s.zones

/-- R25, R27, R28, R44, R140: a CANCEL takes its lines out of the queue and of the unsettled line set, their zones
out of the stale zone set and the lines out of the last unsettled set; target is set to sensed, at once unless
work on the line is in flight; such a line is kept with VERIFY as the CANCEL read it, and without one the work of
an earlier CANCEL goes on; staging and sensed stay. A change of the last unsettled set, and with no refresh open
one of the stale zone set, prompts the status-line writer (R45). With a refresh open and nothing in flight the
close decision of a CANCEL follows, which leaves its sender out of the notice (ChoiceCloseDecisionAndDeadline
gives its rows), or, with lines still queued and none of them being processed, the choice; otherwise nothing
follows. That a line an earlier CANCEL took counts as one with work in flight is the model's choice (log entry
14), and so is that a close which comes after an audit or return sense in flight at the CANCEL is told to its
sender too (log entry 32); that lines waiting for a return sense do not delay the close decision is the model's
reading (log entry 15, DEDUCED). -/
def Obligations.CancelTakesBackItsLines : Prop :=
  ∀ (l : Link) (f : Frame) (s : State) (lines : List Line), PanesOk s.panes → EngineOk s →
    Takes s l .cancel f →
    s.scope (linkIdentity l) f.payload = .ok lines →
    let reply : Reply := .cancelled s.engine.generation (lines.countP s.engine.queue.contains)
      ((lines.flatMap zonesOf).countP s.engine.stale.get)
    (∀ ln, s.workInFlight ln = true ↔ s.quiet = false ∧
      ((∃ c, s.engine.current = some c ∧ c.line = ln) ∨
        ∃ w, s.engine.cancelled = some w ∧ w.line = ln)) ∧
    (∃ u, SameBesideEngine s u ∧
      u = (((s.answered l f reply).setPage { s.page with target := u.page.target }).setWriter
        u.writer).setEngine u.engine ∧
      (∀ ln, u.target ln = if ln ∈ lines ∧ s.workInFlight ln = false then s.sensed ln else s.target ln) ∧
      u.engine =
        { s.engine with
          queue := s.engine.queue.filter (· ∉ lines)
          refresh := u.engine.refresh
          stale := u.engine.stale
          current := s.engine.current.filter (·.line ∉ lines)
          cancelled := u.engine.cancelled } ∧
      (∀ ln ∈ lines, s.workInFlight ln = true →
        u.engine.cancelled = some ⟨ln, linkIdentity l, true, s.settings.verify⟩) ∧
      ((∀ ln ∈ lines, s.workInFlight ln = false) → u.engine.cancelled = s.engine.cancelled) ∧
      (∀ ln, u.writer.lastUnsettled.get ln = true ↔
        s.writer.lastUnsettled.get ln = true ∧ ln ∉ lines) ∧
      (u.writer.prompt = true ↔ s.writer.prompt = true ∨ ∃ ln ∈ lines,
        s.writer.lastUnsettled.get ln = true ∨
        (s.engine.refresh = none ∧ ∃ z, zoneLine z = ln ∧ s.engine.stale.get z = true)) ∧
      (s.engine.refresh = none → u.engine.refresh = none) ∧
      (∀ r, s.engine.refresh = some r → ∃ unsettled : LineSet,
        u.engine.refresh = some { r with unsettled := unsettled } ∧
        ∀ ln, unsettled.get ln = true ↔ r.unsettled.get ln = true ∧ ln ∉ lines) ∧
      (∀ z, u.engine.stale.get z = true ↔ s.engine.stale.get z = true ∧ zoneLine z ∉ lines) ∧
      let follows : Prop := s.engine.refresh.isSome ∧ s.quiet = true ∧ u.engine.current = none
      (¬ follows → exec (.cancel l) s = .next u.settle) ∧
      (follows → u.engine.queue = [] →
        exec (.cancel l) s = .next (u.closeDecision (some (linkIdentity l))).settle) ∧
      (follows → u.engine.queue ≠ [] → exec (.cancel l) s = .next u.choose.settle)) ∧
    ∃ t, exec (.cancel l) s = .next t ∧
      (∀ ln ∈ lines, ln ∉ t.engine.queue ∧ t.writer.lastUnsettled.get ln = false ∧
        (∀ z, zoneLine z = ln → t.engine.stale.get z = false) ∧
        t.staging ln = s.staging ln ∧
        (t.target ln = if s.workInFlight ln then s.target ln else s.sensed ln) ∧
        (s.workInFlight ln = true →
          t.engine.cancelled = some ⟨ln, linkIdentity l, true, s.settings.verify⟩)) ∧
      (∀ ln, ln ∉ lines → s.owns .localWriter ln = false →
        t.target ln = s.target ln ∧ t.staging ln = s.staging ln) ∧
      t.page.sensed = s.page.sensed ∧ SameBesideEngine s t ∧ t.stage = s.stage ∧
      (t.port l).carries (.reply f.tag reply)

/-! ### The pane table -/

/-- R35, R45: the checks of PANE_SPLIT in order, and the split, which changes the table and the station port
alone; the split of a pane of LOCAL prompts the status-line writer (StatusLineWriterShowsWorkAndFaults says
what it does). -/
def Obligations.SplitDividesOnePane : Prop :=
  ∀ (f : Frame) (s : State) (id at_ : Byte), f.payload = [id, at_] → Takes s .station .paneSplit f →
    PanesOk s.panes → s.writer.prompt = false →
    let refused (why : Reason) : Prop :=
      exec (.paneSplit .station) s = .next (s.turnedAway .station f why)
    ((∀ p ∈ s.panes, p.id.val ≠ id.toNat) → refused .outOfRange) ∧
    ∀ (before after : List Pane) (p : Pane), s.panes = before ++ p :: after → p.id.val = id.toNat →
      ((at_.toNat ≤ p.first.val ∨ p.last.val < at_.toNat) → refused .outOfRange) ∧
      (p.first.val < at_.toNat → at_.toNat ≤ p.last.val →
        (s.panes.length = 8 → refused .panesFull) ∧
        (s.panes.length < 8 → ∃ (new : Fin 8) (lower upper : Pane) (t : State),
          exec (.paneSplit .station) s = .next t ∧
          (∀ q ∈ s.panes, q.id ≠ new) ∧ (∀ i < new, ∃ q ∈ s.panes, q.id = i) ∧
          lower = { p with last := lower.last } ∧ lower.last.val = at_.toNat - 1 ∧
          upper = ⟨new, upper.first, p.last, p.owner⟩ ∧ upper.first.val = at_.toNat ∧
          t.panes = before ++ lower :: upper :: after ∧
          t.ports.station.carries (.reply f.tag (.paneSplit new)) ∧
          let u : State := (s.setPanes t.panes).answered .station f (.paneSplit new)
          t = if p.owner = .localWriter then u.promptWriter.settle else u))

/-- R36, R45: the checks of PANE_MERGE in order, and the merge, which changes the table and the station port
alone; a merge of panes of LOCAL prompts the status-line writer. -/
def Obligations.MergeJoinsTheFollowingPane : Prop :=
  ∀ (f : Frame) (s : State) (id : Byte), f.payload = [id] → Takes s .station .paneMerge f →
    PanesOk s.panes → s.writer.prompt = false →
    let refused (why : Reason) : Prop :=
      exec (.paneMerge .station) s = .next (s.turnedAway .station f why)
    ((∀ p ∈ s.panes, p.id.val ≠ id.toNat) → refused .outOfRange) ∧
    (∀ (before : List Pane) (p : Pane), s.panes = before ++ [p] → p.id.val = id.toNat →
      refused .panesMismatch) ∧
    ∀ (before after : List Pane) (p q : Pane), s.panes = before ++ p :: q :: after →
      p.id.val = id.toNat →
      (q.owner ≠ p.owner → refused .panesMismatch) ∧
      (q.owner = p.owner → ∃ t, exec (.paneMerge .station) s = .next t ∧
        t.panes = before ++ { p with last := q.last } :: after ∧
        t.ports.station.carries (.reply f.tag (.paneMerged p.id q.last)) ∧
        let u : State := (s.setPanes t.panes).answered .station f (.paneMerged p.id q.last)
        t = if p.owner = .localWriter then u.promptWriter.settle else u)

/-- R37, R38, R45: the checks of PANE_GRANT in order; a grant to the present owner changes nothing; another
changes the owner, and the staging of the pane's lines becomes their target. Nothing else changes, but that
a grant by which LOCAL gains or loses the pane prompts the status-line writer. -/
def Obligations.GrantChangesTheOwner : Prop :=
  ∀ (l : Link) (f : Frame) (s : State) (id owner : Byte), f.payload = [id, owner] →
    Takes s l .paneGrant f → PanesOk s.panes → s.writer.prompt = false →
    let refused (why : Reason) : Prop := exec (.paneGrant l) s = .next (s.turnedAway l f why)
    ((∀ p ∈ s.panes, p.id.val ≠ id.toNat) → refused .outOfRange) ∧
    ∀ (before after : List Pane) (p : Pane), s.panes = before ++ p :: after → p.id.val = id.toNat →
      (2 < owner.toNat → refused .outOfRange) ∧
      ∀ new : Identity, owner = ownerCode new →
        (l = .patron → (p.owner ≠ .patron ∨ new = .patron) → refused .notPermitted) ∧
        ((l = .station ∨ (p.owner = .patron ∧ new ≠ .patron)) →
          (new = .patron → s.ports.presence = false → refused .notReady) ∧
          ((new = .patron → s.ports.presence = true) →
            (p.owner = new → exec (.paneGrant l) s = .next (s.answered l f (.paneGranted p.id new))) ∧
            (p.owner ≠ new → ∃ (staging : Image) (t : State), exec (.paneGrant l) s = .next t ∧
              t.panes = before ++ { p with owner := new } :: after ∧
              (t.port l).carries (.reply f.tag (.paneGranted p.id new)) ∧
              (∀ ln : Line, staging.get ln =
                if p.first ≤ ln ∧ ln ≤ p.last then s.target ln else s.staging ln) ∧
              let u : State := ((s.setPanes t.panes).setPage { s.page with staging := staging }).answered
                l f (.paneGranted p.id new)
              t = if p.owner = .localWriter ∨ new = .localWriter then u.promptWriter.settle else u)))

/-- R42, R43, R178: the loss of patron presence empties the patron port, gives PATRON's panes to STATION with
their staging set to target, and takes PATRON from the requesters; the gain brings the port into service
empty. Nothing else changes. That on a board without power only the presence line falls or rises, with the
patron port out of service as before, is the model's choice (log entry 7). -/
def Obligations.PresenceLossAndGain : Prop :=
  ∀ s : State,
    (s.ports.presence = true → s.stage ≠ .unpowered → ∃ t,
      exec .presenceLost s = .next t ∧
      t.ports = { s.ports with patron := freshPort, presence := false } ∧
      t.panes = s.panes.map (fun p => if p.owner = .patron then { p with owner := .station } else p) ∧
      (∀ ln : Line, t.staging ln =
        if ∃ p ∈ s.panes, p.owner = .patron ∧ p.first ≤ ln ∧ ln ≤ p.last then s.target ln
        else s.staging ln) ∧
      t.engine = { s.engine with refresh := s.engine.refresh.map fun r =>
        { r with requesters := { r.requesters with patron := false } } } ∧
      t = (((s.setPorts t.ports).setPanes t.panes).setPage
        { s.page with staging := t.page.staging }).setEngine t.engine) ∧
    (s.ports.presence = true → s.stage = .unpowered →
      exec .presenceLost s = .next (s.setPorts { s.ports with presence := false })) ∧
    (s.ports.presence = false →
      exec .presenceGained s =
        .next (s.setPorts { s.ports with patron := freshPort, presence := true }))

/-! ### Health records, retained record, modules -/

/-- R29, R45, R137, R138: a pin outside the page is refused; otherwise the entries named leave the map and the
others keep their order; the fresh flags of the cleared lines are cleared; a pin with no entry has no further
effect. Those of the cleared lines that then have a mismatched pin which is not fault-mapped are named, in
ascending order, in one catch-up, which opens a refresh of STATION or joins the open one; the engine then
chooses, if it may. With no refresh open the status-line writer is prompted. -/
def Obligations.FaultClearRemovesEntries : Prop :=
  (∀ (f : Frame) (s : State) (line cell dot : Byte), f.payload = [line, cell, dot] →
    Takes s .station .faultClear f →
    (23 < line.toNat ∨ 39 < cell.toNat ∨ dot.toNat < 1 ∨ 8 < dot.toNat) →
    exec (.faultClear .station) s = .next (s.turnedAway .station f .outOfRange)) ∧
  ∀ (f : Frame) (s : State) (test : FaultEntry → Bool), Takes s .station .faultClear f →
    (f.payload = [] ∧ test = (fun _ => true) ∨
      ∃ (line cell dot : Byte) (ln : Line) (c : Cell) (d : Dot), f.payload = [line, cell, dot] ∧
        line.toNat = ln.val ∧ cell.toNat = c.val ∧ dot.toNat = d.val + 1 ∧
        test = fun e => decide (faultPin e = (ln, c, d))) →
    let removed := s.health.faultMap.countP test
    let left := s.health.faultMap.length - removed
    (removed = 0 →
      exec (.faultClear .station) s = .next (s.answered .station f (.faultsCleared 0 left))) ∧
    ∃ t, exec (.faultClear .station) s = .next t ∧
      t.health.faultMap = s.health.faultMap.filter (fun e => !test e) ∧
      t.health.trims = s.health.trims ∧ t.page.sensed = s.page.sensed ∧
      (∀ e ∈ s.health.faultMap, test e = true → t.page.fresh.get e.line = false) ∧
      t.ports.station.carries (.reply f.tag (.faultsCleared removed left)) ∧ SameBesideEngine s t ∧
      let cleared (ln : Line) : Prop := ∃ e ∈ s.health.faultMap, test e = true ∧ e.line = ln
      (0 < removed → ∃ (u v : State) (named : List Line),
        u = ((((s.answered .station f (.faultsCleared removed left)).setHealth
          { s.health with faultMap := s.health.faultMap.filter (fun e => !test e) }).setPage
          { s.page with fresh := u.page.fresh }).setWriter
          { s.writer with prompt := s.writer.prompt || s.engine.refresh.isNone }) ∧
        (∀ ln, u.page.fresh.get ln = true ↔ s.page.fresh.get ln = true ∧ ¬ cleared ln) ∧
        named.Pairwise (· < ·) ∧
        (∀ ln, ln ∈ named ↔ cleared ln ∧ ∃ p, pinState (s.target ln) p ≠ pinState (s.sensed ln) p ∧
          ∀ e ∈ s.health.faultMap, test e = false → faultPin e ≠ (ln, cellOf p, dotOf p)) ∧
        CatchesUp u named v ∧ ChoosesFrom (exec (.faultClear .station) s) v)

/-- R149, R150: a commit takes a snapshot of the working values and leaves the stored record invalid until
the write completes; a further one is refused BUSY; the completion stores the snapshot as a valid record
and sends RECORD_WRITTEN. -/
def Obligations.RecordCommitAndItsCompletion : Prop :=
  (∀ (f : Frame) (s : State), Takes s .station .recordCommit f →
    (s.store.commit.isSome →
      exec (.recordCommit .station) s = .next (s.turnedAway .station f .busy)) ∧
    (s.store.commit = none → ∃ snapshot : CheckedRecord,
      snapshot.record = ⟨s.settings, s.health⟩ ∧ snapshot.crc = recordCrc snapshot.record ∧
      exec (.recordCommit .station) s =
        .next ((s.setStore { s.store with stored := .unfinished, commit := some snapshot }).answered
          .station f .recordCommit))) ∧
  (∀ (s : State) (snapshot : CheckedRecord), s.store.commit = some snapshot →
    ∃ t, exec .recordWriteComplete s = .next t ∧
      t.store = ⟨.whole snapshot, none, s.store.recordState⟩ ∧
      (snapshot.crc = recordCrc snapshot.record →
        loadRecord t.store.stored = some snapshot.record) ∧
      t.ports.resetWait = s.ports.resetWait.map (fun w => { w with commitCompleted := true }) ∧
      t.ports.patron = s.ports.patron ∧ t.ports.presence = s.ports.presence ∧
      (s.stage ≠ .unpowered → t.ports.station = s.ports.station.pushNotice .recordWritten) ∧
      t = (s.setStore t.store).setPorts t.ports)

/-- R16, R107, R116, R119: the checks of MODULE_RESET in order; taken, the module is STARTING with the full
self-test and a fresh reading, its lines are not fresh and neither in the queue nor in the return-sense list;
no other module and nothing beside the engine changes. Behind the reply MODULE_CHANGED with STARTING goes to
STATION alone, before any notice of what follows; the lines that were queued are unavailable, a current line of
the module has left; and the engine chooses, if it may. That a module reset while STARTING sends MODULE_CHANGED
too is the model's reading (log entry 18, DEDUCED). -/
def Obligations.ModuleResetStartsTheModule : Prop :=
  ∀ (f : Frame) (s : State) (number : Byte) (reading : Int), f.payload = [number] →
    Takes s .station .moduleReset f →
    let refused (why : Reason) : Prop :=
      exec (.moduleReset .station reading) s = .next (s.turnedAway .station f why)
    (7 < number.toNat → refused .outOfRange) ∧
    (∀ m, s.moduleBusy m = true ↔
      (∃ r, s.modules.operation = some (.stroke r) ∧ moduleOf r.line = m) ∨
      ∃ k ln, s.modules.operation = some (.sense k ln) ∧ moduleOf ln = m) ∧
    ∀ m : ModuleId, number.toNat = m.val →
      (s.moduleState m = .absent → refused .outOfRange) ∧
      (s.moduleState m ≠ .absent → s.moduleBusy m = true → refused .busy) ∧
      (s.moduleState m ≠ .absent → s.moduleBusy m = false → ∃ t,
        exec (.moduleReset .station reading) s = .next t ∧
        t.modules.records = s.modules.records.set m ⟨.starting, some reading, some 50⟩ ∧
        (∀ ln, moduleOf ln = m → t.page.fresh.get ln = false ∧ ln ∉ t.engine.queue ∧
          ln ∉ t.engine.returnList) ∧
        t.ports.station.carries (.reply f.tag (.moduleReset m .starting)) ∧
        t.page.sensed = s.page.sensed ∧ t.panes = s.panes ∧ t.zones = s.zones ∧
        t.settings = s.settings ∧ t.store = s.store ∧ t.health.trims = s.health.trims ∧
        t.stage = s.stage ∧
        ∃ u, LinesLeave s m u ∧ ChoosesFrom (exec (.moduleReset .station reading) s) u ∧
          u.ports = (s.answered .station f (.moduleReset m .starting)).portsTold m .starting ∧
          u = (((s.setPorts u.ports).setEngine u.engine).setPage
            { s.page with fresh := u.page.fresh }).setModules
            { s.modules with records := s.modules.records.set m ⟨.starting, some reading, some 50⟩ })

/-- R5, R32, R33, R64, R103, R120, R152, R179, R180: RESET is answered, and from then on no handler takes a
request; nothing else changes. When a soft reset takes effect, and the values every block takes then. That a
patron reply in sending at the RESET is waited for like one in the queue, and that a frame still in sending
is completed within the event, so that the ports are empty after it, is read from R179 and R180 (log entry
17, DEDUCED); that a soft reset that is not due is refused `cannotArise` is the model's own stop (log entry
1, DEDUCED). -/
def Obligations.ResetIsAnsweredAndTakesEffectWhenDue : Prop :=
  (∀ (f : Frame) (s : State), Takes s .station .reset f →
    ∃ t w, exec (.reset .station) s = .next t ∧
      t = (s.answered .station f .reset).setPorts
        { (s.answered .station f .reset).ports with resetWait := some w } ∧
      (w.patronReply = true ↔ (∃ tag r, Message.reply tag r ∈ s.ports.patron.queue) ∨
        ∃ g, s.ports.patron.sending = some g ∧ isReplyFrame g = true) ∧
      w.commitCompleted = false ∧ ∀ l, t.takeable l = none) ∧
  ∀ (s : State) (w : ResetWait), s.ports.resetWait = some w →
    let due := s.ports.station.replyOutstanding = false ∧
      (w.patronReply = true → s.ports.patron.replyOutstanding = false) ∧ s.store.commit = none ∧
      (w.commitCompleted = true → s.ports.station.writtenOutstanding = false)
    (¬ due → exec .softResetTakesEffect s = .refused .cannotArise) ∧
    (due → ∃ t mask, exec .softResetTakesEffect s = .next t ∧ t.stage = .loadingReset mask ∧
      (∀ m, mask.get m = true ↔
        s.moduleState m = .ready ∨ s.moduleState m = .hot ∨ s.moduleState m = .starting) ∧
      t.ports = ⟨freshPort, freshPort, s.ports.presence, none⟩ ∧
      t.panes = [⟨0, 0, 23, .station⟩] ∧ t.writer.lastUnsettled = Table.fill false ∧
      t.engine.state = .sensing ∧ t.engine.refresh = none ∧ t.engine.generation = 0 ∧
      t.engine.queue = [] ∧ t.engine.current = none ∧ t.engine.cancelled = none ∧
      t.engine.stale = Table.fill false ∧ t.engine.auditPosition = 0 ∧
      t.engine.auditInterval = none ∧ t.engine.returnList = [] ∧
      t.reservoir = ⟨0, .off, none⟩ ∧ t.modules = { s.modules with operation := none } ∧
      t.page = { s.page with fresh := Table.fill false } ∧
      (∀ z, t.zones.get z =
        if s.moduleState (moduleOf (zoneLine z)) ≠ .absent ∧ (s.zones.get z).present = true
        then ⟨.arming, true⟩ else ⟨.clear, false⟩) ∧
      t.health = s.health ∧ t.settings = s.settings ∧ t.store = s.store)

/-! ### Power and the record load -/

/-- R32, R33, R44, R64, R103, R150, R151, R155: the values of a board to which power is applied, and that
a loss of power leaves only the stored record and the lines from outside. That a board without power holds
the values of power-on is the model's choice (log entry 7), and so is that a POWER_ON of a board with power
acts in the same way (log entry 8). -/
def Obligations.PowerOnAndPowerLossSetTheBoard : Prop :=
  ∀ s : State,
    let board (stage : Stage) (t : State) : Prop :=
      t.stage = stage ∧ t.store.stored = s.store.stored ∧ t.store.commit = none ∧
      t.ports = ⟨freshPort, freshPort, s.ports.presence, none⟩ ∧
      t.panes = [⟨0, 0, 23, .station⟩] ∧ t.writer.lastUnsettled = Table.fill false ∧
      t.engine.state = .sensing ∧ t.engine.refresh = none ∧ t.engine.generation = 0 ∧
      t.engine.queue = [] ∧ t.engine.current = none ∧ t.engine.cancelled = none ∧
      t.engine.stale = Table.fill false ∧ t.engine.auditPosition = 0 ∧
      t.engine.auditInterval = none ∧ t.engine.returnList = [] ∧
      t.reservoir = ⟨0, .off, none⟩ ∧ t.modules.operation = none ∧
      t.page.fresh = Table.fill false ∧
      (∀ z, t.zones.get z = ⟨.clear, (s.zones.get z).present⟩)
    (∃ t, exec .powerOn s = .next t ∧ board .loadingPowerOn t) ∧
    (s.stage ≠ .unpowered → ∃ t, exec .powerLost s = .next t ∧ board .unpowered t)

/-- R6, R7, R64, R71, R106, R107, R151, R171: the end of the load after a power-on: settings, health records and
record_state by the stored record, the modules by who answers, their zones by their readings, the lines of
the others all-lowered; the sweep runs (SweepGoesOn), or has completed where no module answers. The defaults of
the settings and of the two class tables; the clamp of stored settings, which changes none that is in range. -/
def Obligations.LoadAfterPowerOnStartsTheSweep : Prop :=
  (∃ raiseTable lowerTable : Table WidthClass 16,
    (∀ i : Fin 16,
      let n1 := i.val / 4 % 2 + i.val / 2 % 2
      let n2 := i.val / 8 + i.val % 2
      raiseTable.get i = (if n1 = 2 then .long else if n1 = 0 ∧ n2 = 0 then .short else .normal) ∧
      lowerTable.get i = (if n1 = 2 then .short else if n1 = 0 then .long else .normal)) ∧
    defaultSettings =
      { baseRaiseUs := 900, baseLowerUs := 700, classStepPct := 12, trimStepUs := 8, retryMax := 2
        verify := true, guard := true, deferMs := 3000, qFloor := 320, qReady := 480
        chargerIdleMs := 30000, auditMs := 2000, touchNotices := false, resetPolicy := .hold
        raiseTable := raiseTable, lowerTable := lowerTable }) ∧
  blankHealth = ⟨[], Table.fill 0, Table.fill 0⟩ ∧
  (∀ x : Settings,
    let within (lo hi v : Nat) : Nat := max lo (min hi v)
    (SettingsInRange x → clampSettings x = x) ∧ SettingsInRange (clampSettings x) ∧
    clampSettings x =
      { x with
        baseRaiseUs := within 200 2000 x.baseRaiseUs
        baseLowerUs := within 200 2000 x.baseLowerUs
        classStepPct := within 0 30 x.classStepPct
        trimStepUs := within 0 32 x.trimStepUs
        retryMax := within 0 3 x.retryMax
        deferMs := within 0 60000 x.deferMs
        qFloor := within 64 448 x.qFloor
        qReady := within (within 64 448 x.qFloor + 16) 512 x.qReady
        chargerIdleMs := within 0 600000 x.chargerIdleMs
        auditMs := within 0 60000 x.auditMs }) ∧
  ∀ (answers : Table Bool 8) (readings : Table Int 8) (s : State), s.stage = .loadingPowerOn →
    StartOk s →
    ∃ t, exec (.recordLoadComplete answers readings) s = .next t ∧
      (∀ r, loadRecord s.store.stored = some r → t.settings = clampSettings r.settings ∧
        t.health = r.health ∧ t.store = { s.store with recordState := .loaded }) ∧
      (loadRecord s.store.stored = none → t.settings = defaultSettings ∧ t.health = blankHealth ∧
        t.store = { s.store with recordState := .defaulted }) ∧
      t.modules.present = answers ∧
      (∀ m, t.modules.records.get m = if answers.get m = true
        then ⟨.starting, some (readings.get m), some 50⟩ else ⟨.absent, none, none⟩) ∧
      (∀ z, t.zones.get z = if answers.get (moduleOf (zoneLine z)) = true ∧
        (s.zones.get z).present = true then ⟨.arming, true⟩ else ⟨.clear, false⟩) ∧
      (∀ ln, t.page.fresh.get ln = false) ∧
      (∀ ln, answers.get (moduleOf ln) = false → t.staging ln = blankContent ∧
        t.target ln = blankContent ∧ t.sensed ln = blankContent) ∧
      ((∃ m, answers.get m = true) → t.stage = .sweeping ∧ t.engine.state = .sensing) ∧
      ((∀ m, answers.get m = false) → t.stage = .running ∧ t.engine.state = .idle) ∧
      ∃ staging target sensed : Image,
        (∀ ln, staging.get ln = if answers.get (moduleOf ln) then s.staging ln else Table.fill 0) ∧
        (∀ ln, target.get ln = if answers.get (moduleOf ln) then s.target ln else Table.fill 0) ∧
        (∀ ln, sensed.get ln = if answers.get (moduleOf ln) then s.sensed ln else Table.fill 0) ∧
        SweepGoesOn (exec (.recordLoadComplete answers readings) s)
          (((((((s.setStage .sweeping).setSettings t.settings).setHealth t.health).setStore
            t.store).setModules ⟨t.modules.records, answers, none⟩).setZones t.zones).setPage
            { s.page with
              staging := staging, target := target, sensed := sensed, fresh := Table.fill false })

/-- R6, R7, R107, R120, R152: the end of the load after a soft reset: the settings and record_state alone by the
stored record; the modules that were READY, HOT or STARTING begin their self-tests again, the others
stay, and of these the lines of the ABSENT and FAULTED ones are all-lowered in all images, the other lines as they
were. The sweep runs (SweepGoesOn), or, where no module is tested, has completed at once. -/
def Obligations.LoadAfterSoftResetRestartsModules : Prop :=
  ∀ (answers : Table Bool 8) (readings : Table Int 8) (mask : Table Bool 8) (s : State),
    s.stage = .loadingReset mask → StartOk s →
    ∃ t, exec (.recordLoadComplete answers readings) s = .next t ∧
      (∀ r, loadRecord s.store.stored = some r → t.settings = clampSettings r.settings ∧
        t.store = { s.store with recordState := .loaded }) ∧
      (loadRecord s.store.stored = none → t.settings = defaultSettings ∧
        t.store = { s.store with recordState := .defaulted }) ∧
      t.health = s.health ∧ t.modules.present = s.modules.present ∧ t.zones = s.zones ∧
      (∀ m, t.modules.records.get m = if mask.get m = true
        then ⟨.starting, some (readings.get m), some 50⟩ else s.modules.records.get m) ∧
      (∀ ln, t.page.fresh.get ln = false) ∧
      ((∃ m, mask.get m = true) → t.stage = .sweeping ∧ t.engine.state = .sensing) ∧
      let out (ln : Line) : Prop := mask.get (moduleOf ln) = false ∧
        (s.lineModule ln = .absent ∨ s.lineModule ln = .faulted)
      (∀ ln, out ln →
        t.staging ln = Table.fill 0 ∧ t.target ln = Table.fill 0 ∧ t.sensed ln = Table.fill 0) ∧
      ((∀ m, mask.get m = false) → (∀ m, s.moduleState m = .absent ∨ s.moduleState m = .faulted) →
        t.stage = .running ∧ t.engine.state = .idle) ∧
      ∃ staging target sensed : Image,
        (∀ ln, (out ln → staging.get ln = Table.fill 0) ∧ (¬ out ln → staging.get ln = s.staging ln)) ∧
        (∀ ln, (out ln → target.get ln = Table.fill 0) ∧ (¬ out ln → target.get ln = s.target ln)) ∧
        (∀ ln, (out ln → sensed.get ln = Table.fill 0) ∧ (¬ out ln → sensed.get ln = s.sensed ln)) ∧
        SweepGoesOn (exec (.recordLoadComplete answers readings) s)
          (((((s.setStage .sweeping).setSettings t.settings).setStore t.store).setModules
            { s.modules with records := t.modules.records }).setPage
            { s.page with
              staging := staging, target := target, sensed := sensed, fresh := Table.fill false })

/-! ### The links -/

/-- R159, R160, R161: what a byte does to the receiver of a port in service, state by state, with the
overflow of the receive buffer; nothing but the receiver, the complete frames and LINK_ERROR of that port
changes. A port out of service receives no bytes (R155): the station port is out of service on a board without
power alone (log entry 7, the model's choice), and the command then answers the same state (log entry 30,
DEDUCED). -/
def Obligations.ReceiverTakesBytesByItsTable : Prop :=
  ∀ (l : Link) (b : Byte) (s : State),
    let p := s.port l
    let goes (r : Receiver) : Prop :=
      exec (.byteReceived l b) s = .next (s.setPort l { p with receiver := r })
    let discarded : Prop := exec (.byteReceived l b) s =
      .next (s.setPort l { p with receiver := .hunt, flags := { p.flags with linkError := true } })
    (s.inService l = false → exec (.byteReceived l b) s = .next s) ∧
    (s.inService l = true →
      (p.receiver = .hunt → b ≠ 0xC3 → goes .hunt) ∧
      (512 ≤ p.held → (p.receiver = .hunt → b = 0xC3) → discarded) ∧
      (p.held < 512 →
        (p.receiver = .hunt → b = 0xC3 → goes .length) ∧
        (p.receiver = .length → b.toNat ≤ 240 → goes (.kind b)) ∧
        (p.receiver = .length → 240 < b.toNat → discarded) ∧
        (∀ n, p.receiver = .kind n → goes (.tag n b)) ∧
        (∀ n k, p.receiver = .tag n k → n ≠ 0 → goes (.payload n k b [])) ∧
        (∀ n k, p.receiver = .tag n k → n = 0 → goes (.check n k b [] none)) ∧
        (∀ n k t got, p.receiver = .payload n k t got → got.length + 1 < n.toNat →
          goes (.payload n k t (got ++ [b]))) ∧
        (∀ n k t got, p.receiver = .payload n k t got → got.length + 1 = n.toNat →
          goes (.check n k t (got ++ [b]) none)) ∧
        (∀ n k t payload, p.receiver = .check n k t payload none →
          goes (.check n k t payload (some b))) ∧
        (∀ n k t payload high, p.receiver = .check n k t payload (some high) →
          (high ++ b = crcOf (n :: k :: t :: payload) → exec (.byteReceived l b) s = .next (s.setPort l
            { p with receiver := .hunt, frames := p.frames ++ [⟨k, t, payload, high ++ b⟩] })) ∧
          (high ++ b ≠ crcOf (n :: k :: t :: payload) → discarded))))

/-- R156, R157, R159: the bytes of a frame, received one by one on a port that hunts and has room for
them, leave that frame complete in the buffer; with any other check value they leave no frame and set
LINK_ERROR. What is framed is received as it was framed. The check value of the nine bytes 0x31 to 0x39 is
the one the manual gives. -/
def Obligations.FramesAreReceivedWhole : Prop :=
  crcOf [0x31, 0x32, 0x33, 0x34, 0x35, 0x36, 0x37, 0x38, 0x39] = 0x29B1#16 ∧
  ∀ (l : Link) (s : State) (kind tag : Byte) (payload : List Byte) (crc : BitVec 16),
    s.inService l = true → (s.port l).receiver = .hunt → payload.length ≤ 240 →
    (s.port l).held + payload.length + 6 ≤ 512 →
    let f : Frame := ⟨kind, tag, payload, crc⟩
    let p := s.port l
    let received := Host.Core.run Sys2Proof.core (payload.length + 6)
      (s.setPending ((frameBytes f).map (Instr.byteReceived l)))
    (crc = frameCrc kind tag payload → received =
      .next ((s.setPending []).setPort l { p with frames := p.frames ++ [f] })) ∧
    (crc ≠ frameCrc kind tag payload → received =
      .next ((s.setPending []).setPort l { p with flags := { p.flags with linkError := true } }))

/-- R158, R159, R160, R175, R176: the gap timer's expiry discards the frame being received; when a frame is out
the next of the queue begins to be sent; nothing else changes. A notice begins to be sent at once where nothing is
in sending; else it joins the tail of its port's queue; with 8 notices waiting the oldest waiting one is lost and
NOTICES_LOST set, and replies and the frame in sending stay. -/
def Obligations.GapExpiryFramesSentAndNoticesLost : Prop :=
  (∀ (l : Link) (s : State),
    let p := s.port l
    (p.receiver ≠ .hunt → exec (.gapTimerExpiry l) s =
      .next (s.setPort l { p with receiver := .hunt, flags := { p.flags with linkError := true } })) ∧
    (p.sending.isSome → p.queue = [] →
      exec (.frameSent l) s = .next (s.setPort l { p with sending := none })) ∧
    (∀ m rest, p.sending.isSome → p.queue = m :: rest → exec (.frameSent l) s =
      .next (s.setPort l { p with sending := some (messageFrame m), queue := rest }))) ∧
  (∀ (p : Port) (n : Notice), p.sending = none → p.queue = [] →
    p.pushNotice n = { p with sending := some (messageFrame (.notice n)) }) ∧
  ∀ (p : Port) (n : Notice), p.sending.isSome →
    (p.waiting < 8 → p.pushNotice n = { p with queue := p.queue ++ [.notice n] }) ∧
    (∀ before after oldest, p.queue = before ++ .notice oldest :: after →
      (∀ m ∈ before, isNotice m = false) → 8 ≤ p.waiting →
      p.pushNotice n =
        { p with
          queue := before ++ after ++ [.notice n]
          flags := { p.flags with noticesLost := true } })

/-! ### Contact guard -/

/-- R50, R52, R54, R62: the transitions of a zone by its reading and its arming timer, for a zone whose sensor
is read and whose module is not ABSENT; the touch event's notice; nothing else changes. When a zone is
guarded. -/
def Obligations.ZoneFollowsReadingsAndArmingTimer : Prop :=
  (∀ (z : ZoneId) (s : State), s.guarded z = true ↔ s.settings.guard = true ∧
    ((s.zones.get z).state = .arming ∨ (s.zones.get z).state = .touched ∨
      (s.zones.get z).state = .releasing)) ∧
  ∀ (z : ZoneId) (s : State), s.zonesReached = true → s.lineModule (zoneLine z) ≠ .absent →
    let x := s.zones.get z
    let goes (c : Instr) (y : Zone) : Prop := exec c s = .next (s.setZones (s.zones.set z y))
    (x = ⟨.clear, false⟩ → goes (.zoneReadingPresent z) ⟨.arming, true⟩) ∧
    (x = ⟨.releasing, false⟩ → goes (.zoneReadingPresent z) ⟨.touched, true⟩) ∧
    (x = ⟨.arming, true⟩ → goes (.zoneReadingAbsent z) ⟨.clear, false⟩) ∧
    (x = ⟨.touched, true⟩ → goes (.zoneReadingAbsent z) ⟨.releasing, false⟩) ∧
    (x.state = .arming → (s.settings.touchNotices = false ∨ s.stage ≠ .running) →
      goes (.armingTimerExpiry z) ⟨.touched, x.present⟩) ∧
    (x.state = .arming → s.settings.touchNotices = true → s.stage = .running → ∃ t,
      exec (.armingTimerExpiry z) s = .next t ∧ t.zones = s.zones.set z ⟨.touched, x.present⟩ ∧
      t.ports.station = s.ports.station.pushNotice (.touch z .touched) ∧
      t.ports.patron =
        (if s.owns .patron (zoneLine z) = true ∧ s.ports.presence = true then
          s.ports.patron.pushNotice (.touch z .touched) else s.ports.patron) ∧
      t = (s.setZones t.zones).setPorts t.ports)

/-- R23, R50, R53, R62: a release event: the zone is CLEAR, its line is no longer fresh, the TOUCH {released}
notice goes out, and the zone is not in the stale zone set; released from the set it queues its line in the open
refresh, at the tail or at its place, or opens a catch-up with requesters {STATION}, and the engine chooses, if
it may; an engine in DEFERRED takes the line, by a pre-sense. A line that is out of service becomes an
unavailable line of an open refresh, and opens none (R29, R60); that an engine in DEFERRED whose last stale zone
is so released makes no close decision, and stays DEFERRED until one of the moments R25 lists, is the model's
reading of R25 (log entry 23, DEDUCED). Outside the set nothing more happens. A change of the set with no
refresh open prompts the status-line writer (R45). -/
def Obligations.ReleaseEventServesTheZone : Prop :=
  ∀ (z : ZoneId) (s : State), (s.zones.get z).state = .releasing → EngineOk s →
    let line := zoneLine z
    let zone : Zone := ⟨.clear, (s.zones.get z).present⟩
    let told : Ports :=
      if s.settings.touchNotices = true ∧ s.stage = .running then
        { s.ports with
          station := s.ports.station.pushNotice (.touch z .released)
          patron :=
            if s.owns .patron line = true ∧ s.ports.presence = true then
              s.ports.patron.pushNotice (.touch z .released)
            else s.ports.patron }
      else s.ports
    ∃ t, exec (.releaseTimerExpiry z) s = .next t ∧ t.zones = s.zones.set z zone ∧
      t.page.fresh.get line = false ∧ t.engine.stale.get z = false ∧
      t.page.sensed = s.page.sensed ∧ t.settings = s.settings ∧ t.panes = s.panes ∧
      t.store = s.store ∧ t.modules.records = s.modules.records ∧
      let cleared : State := ((s.setZones (s.zones.set z zone)).setPage
        { s.page with fresh := s.page.fresh.set line false }).setPorts told
      (s.engine.stale.get z = false → exec (.releaseTimerExpiry z) s = .next cleared.settle) ∧
      (s.engine.stale.get z = true → ∃ u,
        CatchesUp ((cleared.setWriter
          { s.writer with prompt := s.writer.prompt || s.engine.refresh.isNone }).setEngine
          { s.engine with stale := s.engine.stale.set z false }) [line] u ∧
        ChoosesFrom (exec (.releaseTimerExpiry z) s) u) ∧
      (s.engine.stale.get z = false → s.writer.prompt = false →
        t = ((s.setZones t.zones).setPage
          { s.page with fresh := s.page.fresh.set line false }).setPorts told) ∧
      (s.quiet = false → t.ports = told) ∧
      (s.engine.stale.get z = true → s.engine.refresh.isSome → s.quiet = false →
        s.lineInService line = true →
        t.engine.queue = if line ∈ s.engine.queue then s.engine.queue else s.engine.queue ++ [line]) ∧
      (s.engine.stale.get z = true → s.engine.state = .deferred → s.lineModule line = .ready →
        t.engine.queue = [line] ∧ t.engine.current = some ⟨line, startRound⟩ ∧
        t.engine.state = .sensing ∧ t.modules.operation = some (.sense .pre line) ∧
        t.engine.generation = s.engine.generation ∧ t.ports = told) ∧
      (s.engine.stale.get z = true → s.engine.refresh = none → s.lineInService line = true →
        ∃ r, t.engine.refresh = some r ∧ r.requesters = ⟨true, false, false⟩ ∧
          t.engine.generation = s.engine.generation + 1 ∧ t.engine.queue = [line])

/-! ### Modules -/

/-- R6, R7, R107, R115, R117, R119: a self-test's end: READY on pass, FAULTED on fail, the reading held; no other
module changes; after the sweep a passed module's lines are in the return-sense list; a failed module's
lines are not fresh. After the sweep MODULE_CHANGED with the new state goes to STATION alone, and no other
notice is made; an event that leaves the sweep or a load running makes none. During the sweep the lines of a
module that passed join those that wait for it, those of one that failed leave them and are all-lowered in all
images, and the sweep goes on. After it the passed module's lines are appended to the return-sense list in
ascending order, and an engine that is IDLE, DEFERRED or HELD senses the first of the list at once; of a failed
module the lines leave, and the engine chooses, if it may. While a record is loaded nothing follows a pass. -/
def Obligations.SelfTestTakesTheModuleOn : Prop :=
  ∀ (m : ModuleId) (passed : Bool) (reading : Int) (s : State), s.moduleState m = .starting →
    ∃ t, exec (.selfTestComplete m passed reading) s = .next t ∧
      t.modules.records =
        s.modules.records.set m ⟨if passed then .ready else .faulted, some reading, none⟩ ∧
      (passed = true → s.stage = .running → ∀ ln, moduleOf ln = m → ln ∈ t.engine.returnList) ∧
      (passed = false → ∀ ln, moduleOf ln = m → t.page.fresh.get ln = false) ∧
      t.panes = s.panes ∧ t.zones = s.zones ∧ t.settings = s.settings ∧ t.store = s.store ∧
      t.health.trims = s.health.trims ∧
      (EngineOk s → s.writer.prompt = false → t.stage = s.stage →
        t.ports = s.portsTold m (if passed then .ready else .faulted)) ∧
      let goes : Host.Outcome State Fault Refusal := exec (.selfTestComplete m passed reading) s
      let tested : State := s.setModules { s.modules with
        records := s.modules.records.set m ⟨if passed then .ready else .faulted, some reading, none⟩ }
      (passed = true → s.loading = true → goes = .next tested.settle) ∧
      (passed = true → s.stage = .sweeping → ∃ waiting : LineSet,
        (∀ ln, waiting.get ln = true ↔ s.engine.sweepWaiting.get ln = true ∨ moduleOf ln = m) ∧
        SweepGoesOn goes (tested.setEngine { s.engine with sweepWaiting := waiting })) ∧
      (passed = true → s.stage = .running → ∃ new : List Line,
        new.Pairwise (· < ·) ∧ (∀ ln, ln ∈ new ↔ moduleOf ln = m ∧ ln ∉ s.engine.returnList) ∧
        let list := s.engine.returnList ++ new
        let told : State := (tested.setPorts (s.portsTold m .ready)).setEngine
          { s.engine with returnList := list }
        let free : Prop := s.quiet = true ∧
          (s.engine.state = .idle ∨ s.engine.state = .deferred ∨ s.engine.state = .held)
        (¬ free → goes = .next told.settle) ∧
        (free → list = [] → goes = .next told.settle) ∧
        (free → ∀ first rest, list = first :: rest → goes = .next ((told.setEngine
          { told.engine with state := .sensing }).setModules
          { told.modules with operation := some (.sense .return first) }).settle)) ∧
      (passed = false → ∃ u, LinesLeave s m u ∧ u.ports = s.portsTold m .faulted ∧
        u = (((s.setPorts u.ports).setEngine u.engine).setPage
          { s.page with fresh := u.page.fresh }).setModules tested.modules ∧
        (s.stage ≠ .sweeping → ChoosesFrom goes u) ∧
        (s.stage = .sweeping → ∃ (waiting : LineSet) (staging target sensed : Image),
          (∀ ln, waiting.get ln = true ↔ s.engine.sweepWaiting.get ln = true ∧ moduleOf ln ≠ m) ∧
          (∀ ln, staging.get ln = if moduleOf ln = m then Table.fill 0 else s.staging ln) ∧
          (∀ ln, target.get ln = if moduleOf ln = m then Table.fill 0 else s.target ln) ∧
          (∀ ln, sensed.get ln = if moduleOf ln = m then Table.fill 0 else s.sensed ln) ∧
          SweepGoesOn goes ((u.setEngine { u.engine with sweepWaiting := waiting }).setPage
            { u.page with staging := staging, target := target, sensed := sensed })))

/-- R15, R16, R85, R108, R109, R110, R119: a temperature reading is held, and takes READY to HOT from 85 °C on
and HOT to READY from 75 °C down; no other module's record changes, nor anything beside the engine. Each change
after the sweep sends MODULE_CHANGED with the new state to STATION alone, before any notice of what follows. A
current line of a module gone HOT that waits in CHARGING is suspended at once: it leaves its place as current
line and stays in the queue, its round state is gone, its fresh flag is cleared if a stroke was fired on it
since its last sense pass, and the engine chooses. In HELD the cooling of a module makes the engine choose:
of several queued lines it takes the first whose module is READY, by a pre-sense where that line is not fresh.
Otherwise nothing follows. -/
def Obligations.TemperatureMovesTheModule : Prop :=
  ∀ (m : ModuleId) (reading : Int) (s : State), s.moduleState m ≠ .absent →
    let old := s.modules.records.get m
    let new : ModuleState :=
      if old.state = .ready ∧ 85 ≤ reading then .hot
      else if old.state = .hot ∧ reading ≤ 75 then .ready else old.state
    let goes (t : State) : Prop := exec (.temperatureReading m reading) s = .next t
    let waits : Prop := ∃ c, s.engine.current = some c ∧ s.engine.state = .charging ∧ moduleOf c.line = m
    (∃ t, goes t ∧
      t.modules.records = s.modules.records.set m ⟨new, some reading, old.selfTest⟩ ∧
      (new = old.state → t = s.setModules t.modules ∧ t.modules.operation = s.modules.operation) ∧
      t.page.sensed = s.page.sensed ∧ t.panes = s.panes ∧ t.zones = s.zones ∧
      t.settings = s.settings ∧ t.store = s.store ∧ t.health.trims = s.health.trims ∧
      t.stage = s.stage) ∧
    (new ≠ old.state →
      let told : State := (s.setModules { s.modules with
        records := s.modules.records.set m ⟨new, some reading, old.selfTest⟩ }).setPorts
        (s.portsTold m new)
      (new = .hot → ¬ waits → goes told.settle) ∧
      (new = .hot → ∀ c, s.engine.current = some c → s.engine.state = .charging → moduleOf c.line = m →
        ∃ fresh : LineSet,
        (∀ ln, fresh.get ln = true ↔
          s.page.fresh.get ln = true ∧ ¬ (ln = c.line ∧ s.page.struck.get ln = true)) ∧
        goes ((told.setEngine { s.engine with current := none }).setPage
          { s.page with fresh := fresh }).choose.settle) ∧
      (new = .ready → s.engine.state ≠ .held → goes told.settle) ∧
      (new = .ready → s.engine.state = .held → goes told.choose.settle ∧
        ∀ before ln after, s.engine.queue = before ++ ln :: after → s.engine.returnList = [] →
          (∀ k ∈ before, told.lineModule k ≠ .ready) → told.lineModule ln = .ready →
          s.page.fresh.get ln = false → s.writer.prompt = false →
          goes ((told.setEngine
            { s.engine with state := .sensing, current := some ⟨ln, startRound⟩ }).setModules
            { told.modules with operation := some (.sense .pre ln) })))

/-- R16, R28, R30, R93, R95, R113, R114, R115, R117, R119: a module that reports a fault of its stroke,
and one that fails a sense pass, is FAULTED; its lines are not fresh and neither in the queue nor in the
return-sense list; no sensed state is written for the cut stroke or the failed pass, but a failed sweep sense
sets the module's lines to all-lowered (R7), and a stroke whose completion was taken first has, with VERIFY at
0, the states its pins were fired toward written (R93); the charge drawn is not returned. After the sweep
MODULE_CHANGED with FAULTED goes to STATION alone, before any notice of what follows: the end of a CANCEL's work
on the line, or the engine's choice, or, of an audit or return sense, what such a sense goes on with. The
model's choices (DESIGN CHOICE): that a pre-sense or verify sense which fails on a line that a CANCEL took ends
the CANCEL's work (log entry 34); that a close at the end of such work leaves out the sender whose CANCEL took
the line, and no other canceller (log entry 33), also where that sender has since merged a SHOW (log entry 35);
that a close after an audit or return sense is an ordinary one, by its outcome and in that every requester is
told, also where a CANCEL has emptied the queue during that sense (log entry 32); and the form in which a report
says whether the completion was taken first (log entry 20). The model's readings (DEDUCED): that an audit sense
which ends with a refresh open does not start the audit interval (log entry 19); that lines waiting for a return
sense do not delay the close decision at the end of a CANCEL's work (log entry 15); and that VERIFY as the
completion reads it, and not as a CANCEL of the line read it, decides whether the states of a stroke completed
first are written (log entry 21). -/
def Obligations.FaultedModuleLeavesService : Prop :=
  ∀ s : State,
    let left (m : ModuleId) (t : State) : Prop :=
      t.modules.records = s.modules.records.set m
        { s.modules.records.get m with state := .faulted, selfTest := none } ∧
      (∀ ln, moduleOf ln = m → t.page.fresh.get ln = false ∧ ln ∉ t.engine.queue ∧
        ln ∉ t.engine.returnList) ∧
      t.reservoir.q ≤ s.reservoir.q ∧ t.panes = s.panes ∧ t.zones = s.zones ∧
      t.settings = s.settings ∧ t.store = s.store ∧ t.health.trims = s.health.trims
    let faulted (m : ModuleId) (sensed : Image) (u : State) : Prop :=
      LinesLeave s m u ∧ u.ports = s.portsTold m .faulted ∧
      u = (((s.setPorts u.ports).setEngine u.engine).setPage
        { s.page with sensed := sensed, fresh := u.page.fresh }).setModules
        { s.modules with
          records := s.modules.records.set m
            { s.modules.records.get m with state := .faulted, selfTest := none }
          operation := none }
    let driven (r : Stroke) (u : State) : Prop := ∀ ln p, pinState (u.sensed ln) p =
      if ln = r.line ∧ ∃ k ∈ r.pins, k.pin = p then decide (r.direction = .raise)
      else pinState (s.sensed ln) p
    let goesOn (o : Host.Outcome State Fault Refusal) (u : State) : Prop :=
      (s.engine.cancelled = none → ChoosesFrom o u) ∧
      ∀ w, s.engine.cancelled = some w → CancelEndsFrom o u w
    (∀ (r : Stroke) (cause : DriveFault) (completionFirst : Bool),
      s.modules.operation = some (.stroke r) → ∃ u,
      goesOn (exec (.moduleFaultReport r.module cause completionFirst) s) u ∧
      faulted r.module u.page.sensed u ∧
      (completionFirst = false ∨ s.settings.verify = true → u.page.sensed = s.page.sensed) ∧
      (completionFirst = true → s.settings.verify = false → driven r u)) ∧
    (∀ (k : SenseKind) (ln : Line), s.modules.operation = some (.sense k ln) → ∃ u,
      faulted (moduleOf ln) s.page.sensed u ∧
      (k = .sweep → ∃ (waiting : LineSet) (staging target sensed : Image),
        (∀ l, waiting.get l = true ↔
          s.engine.sweepWaiting.get l = true ∧ moduleOf l ≠ moduleOf ln) ∧
        (∀ l, staging.get l = if moduleOf l = moduleOf ln then Table.fill 0 else s.staging l) ∧
        (∀ l, target.get l = if moduleOf l = moduleOf ln then Table.fill 0 else s.target l) ∧
        (∀ l, sensed.get l = if moduleOf l = moduleOf ln then Table.fill 0 else s.sensed l) ∧
        SweepGoesOn (exec .sensePassFailed s)
          ((u.setEngine { u.engine with sweepWaiting := waiting }).setPage
            { u.page with staging := staging, target := target, sensed := sensed })) ∧
      ((k = .pre ∨ k = .verify ∨ k = .cancel) → goesOn (exec .sensePassFailed s) u) ∧
      (k = .return → ResumesFrom (exec .sensePassFailed s) u) ∧
      (k = .audit → ResumesFrom (exec .sensePassFailed s) (u.setEngine
        { u.engine with auditInterval :=
          if s.engine.refresh.isSome then u.engine.auditInterval
          else if s.settings.auditMs = 0 then none else some s.settings.auditMs }))) ∧
    (∀ (r : Stroke) (cause : DriveFault), s.modules.operation = some (.stroke r) → ∃ t,
      exec (.moduleFaultReport r.module cause false) s = .next t ∧ left r.module t ∧
      t.page.sensed = s.page.sensed) ∧
    (∀ (r : Stroke) (cause : DriveFault), s.modules.operation = some (.stroke r) → ∃ t,
      exec (.moduleFaultReport r.module cause true) s = .next t ∧ left r.module t ∧
      (s.settings.verify = true → t.page.sensed = s.page.sensed) ∧
      (s.settings.verify = false → driven r t)) ∧
    (∀ (k : SenseKind) (ln : Line), s.modules.operation = some (.sense k ln) → ∃ t,
      exec .sensePassFailed s = .next t ∧ left (moduleOf ln) t ∧
      ∀ ln', t.sensed ln' =
        if k = .sweep ∧ moduleOf ln' = moduleOf ln then blankContent else s.sensed ln')

/-! ### Sense passes and strokes -/

/-- R4, R5, R112: each kind of sense pass writes its line's sensed content and sets its fresh flag, and no stroke
has been fired on the line since its last sense pass (R16); before what follows it, this and the end of the
operation are all it does (`endSense`). No other line's sensed content, no record, pane, zone or setting changes. -/
def Obligations.SensePassWritesItsLine : Prop :=
  (∀ (ln : Line) (states : Content) (s : State), s.endSense ln states =
    (s.setPage { s.page with
      sensed := s.page.sensed.set ln states
      fresh := s.page.fresh.set ln true
      struck := s.page.struck.set ln false }).setModules { s.modules with operation := none }) ∧
  ∀ (k : SenseKind) (ln : Line) (states : Content) (trimLists : List Link) (s : State),
    s.modules.operation = some (.sense k ln) →
    ∃ t, exec (senseCommand k states trimLists) s = .next t ∧ t.sensed ln = states ∧
      (∀ ln', ln' ≠ ln → t.sensed ln' = s.sensed ln') ∧ t.page.fresh.get ln = true ∧
      t.modules.records = s.modules.records ∧ t.panes = s.panes ∧ t.zones = s.zones ∧
      t.settings = s.settings ∧ t.store = s.store ∧
      (k ≠ .sweep → t.stage = s.stage) ∧ (k ≠ .verify → t.health.trims = s.health.trims)

/-- R6, R7, R17, R28, R29, R30, R84, R117, R118: how each sense pass goes on, but a verify sense of the current
line. The lowest waiting line of the sweep is sensed next; after the last one the sweep waits for STARTING
modules or completes, with the page set by RESET_POLICY. After a pre-sense round 0 of the line begins, its LOWER
phase first, no pin driven and every attempt count 0, with its packing point, PacksFrom giving its cases, among
them the wait with a candidate and Q below Q_READY; a cancelled line's target becomes the states returned, and
its CANCEL's work is over, as it is after a pre-sense or verify sense of such a line; an audit that finds
nothing leaves the engine IDLE; a sensed line leaves the return-sense list. An audit or return sense that finds
a mismatched pin which is not fault-mapped names its line in a catch-up, which opens a refresh of STATION or
joins the open one; then, and where it finds none, the next return sense is made, or the engine chooses, or it
is IDLE. The model's choices (DESIGN CHOICE): that a close which such a choice leads to is an ordinary one, by
its outcome and in that every requester is told, also where a CANCEL has emptied the queue during that sense
(log entry 32); that a close at the end of a CANCEL's work leaves out the sender whose CANCEL took the line, and
no other canceller (log entry 33), also where that sender has since merged a SHOW (log entry 35). The model's
readings (DEDUCED): that a line is searched for exhausted pins only with VERIFY at 1 after the last round (log
entries 11 and 12); that lines waiting for a return sense do not delay the close decision at the end of a
CANCEL's work (log entry 15); that an audit sense which ends with a refresh open does not start the audit
interval (log entry 19); and that round 0 begins with empty sets also where a commit came during the pre-sense
(log entry 26). -/
def Obligations.SensePassesGoOnByTheirKind : Prop :=
  ∀ (ln : Line) (states : Content) (s : State),
    let sensing (k : SenseKind) : Prop := s.modules.operation = some (.sense k ln)
    let after := s.endSense ln states
    startRound = ⟨0, .lower, Table.fill ⟨0, false, false, false, false⟩⟩ ∧
    (sensing .sweep → s.writer.prompt = false → ∀ next, s.engine.sweepWaiting.get next = true →
      (∀ l < next, s.engine.sweepWaiting.get l = false) → ∃ t,
      exec (.sweepSenseComplete states) s = .next t ∧
      t.modules.operation = some (.sense .sweep next) ∧ t.engine.sweepWaiting.get next = false ∧
      t.stage = s.stage ∧ t.engine.state = .sensing) ∧
    (sensing .sweep → SweepGoesOn (exec (.sweepSenseComplete states) s) after) ∧
    (sensing .pre → s.engine.cancelled = none → ∀ c, s.engine.current = some c →
      PacksFrom (exec (.preSenseComplete states) s) after ⟨c.line, startRound⟩) ∧
    (sensing .pre → s.writer.prompt = false → s.engine.cancelled = none → ∀ c,
      s.engine.current = some c → s.lineModule c.line ≠ .hot →
      after.hasCandidate ⟨c.line, startRound⟩ = true → s.reservoir.q < s.settings.qReady →
      exec (.preSenseComplete states) s = .next (after.setEngine
        { s.engine with state := .charging, current := some ⟨c.line, startRound⟩ })) ∧
    (sensing .cancel → ∀ w, s.engine.cancelled = some w → w.line = ln →
      s.owns .localWriter ln = false → ∃ t, exec (.cancelSenseComplete states) s = .next t ∧
      t.engine.cancelled = none ∧
      t.target ln = if w.copyDue then states else s.target ln) ∧
    (sensing .cancel → ∀ w, s.engine.cancelled = some w →
      CancelEndsFrom (exec (.cancelSenseComplete states) s) after w) ∧
    (sensing .pre → ∀ w, s.engine.cancelled = some w →
      CancelEndsFrom (exec (.preSenseComplete states) s) after w) ∧
    (sensing .verify → ∀ w trimLists, s.engine.cancelled = some w →
      CancelEndsFrom (exec (.verifySenseComplete ⟨states, trimLists⟩) s) after w) ∧
    (sensing .audit → ∃ u,
      (after.lineUndone ln = true → CatchesUp after [ln] u) ∧ (after.lineUndone ln = false → u = after) ∧
      ResumesFrom (exec (.auditSenseComplete states) s) (u.setEngine
        { u.engine with auditInterval :=
          if u.engine.refresh.isSome then u.engine.auditInterval
          else if s.settings.auditMs = 0 then none else some s.settings.auditMs })) ∧
    (sensing .return → ∃ u,
      let out : State := after.setEngine
        { s.engine with returnList := s.engine.returnList.filter (· ≠ ln) }
      (out.lineUndone ln = true → CatchesUp out [ln] u) ∧ (out.lineUndone ln = false → u = out) ∧
      ResumesFrom (exec (.returnSenseComplete states) s) u) ∧
    (after.lineUndone ln = true ↔ ∃ p, pinState (s.target ln) p ≠ pinState states p ∧
      s.faultMapped ln p = false) ∧
    (sensing .audit → s.writer.prompt = false → s.engine.refresh = none → s.engine.returnList = [] →
      after.lineUndone ln = false → exec (.auditSenseComplete states) s = .next (after.setEngine
        { s.engine with
          state := .idle
          auditInterval := if s.settings.auditMs = 0 then none else some s.settings.auditMs })) ∧
    (sensing .return → ∃ t, exec (.returnSenseComplete states) s = .next t ∧
      ln ∉ t.engine.returnList ∧
      ∀ l ≠ ln, (l ∈ t.engine.returnList ↔ l ∈ s.engine.returnList))

/-- R123, R127, R143, R144, R145: the trims after a verify sense of the current line: each of the line's two
banks rises by 1, falls by 1 or stays by its counts of under-stroke and disturbed pins, never past +31 or
−32; no other trim changes. A TRIM_LIST taken between the two updates shows the first bank's new trim beside
the second bank's old one; that the completion carries the links whose TRIM_LIST is taken there is the model's
form (log entry 29, DESIGN CHOICE). -/
def Obligations.VerifySenseMovesTheTrims : Prop :=
  ∀ (states : Content) (trimLists : List Link) (s : State) (c : Current),
    s.modules.operation = some (.sense .verify c.line) →
    s.engine.current = some c → s.engine.cancelled = none →
    let wrong (p : LinePin) : Prop :=
      pinState states p ≠ pinState (s.target c.line) p ∧ s.faultMapped c.line p = false ∧
      s.guarded (pinZone c.line p) = false ∧ (c.round.pins.get p).retargeted = false
    let under (b : BankId) (p : LinePin) : Prop :=
      pinBank c.line p = b ∧ wrong p ∧ (c.round.pins.get p).firedInRound = true
    let disturbed (b : BankId) (p : LinePin) : Prop :=
      pinBank c.line p = b ∧ wrong p ∧ (c.round.pins.get p).firedInRound = false ∧
      pinState states p ≠ pinState (s.sensed c.line) p
    ∀ (u d : BankId → Finset LinePin), (∀ b p, p ∈ u b ↔ under b p) →
      (∀ b p, p ∈ d b ↔ disturbed b p) →
      let moved (b : BankId) : Int :=
        if (d b).card < (u b).card then min 31 (s.health.trims.get b + 1)
        else if (u b).card < (d b).card then max (-32) (s.health.trims.get b - 1)
        else s.health.trims.get b
      ∃ t, exec (.verifySenseComplete ⟨states, trimLists⟩) s = .next t ∧
        (∀ b, t.health.trims.get b =
          if b.val / 2 = c.line.val then moved b else s.health.trims.get b) ∧
        ((∃ b : BankId, b.val / 2 = c.line.val ∧
            (((d b).card < (u b).card ∧ 31 ≤ s.health.trims.get b) ∨
              ((u b).card < (d b).card ∧ s.health.trims.get b ≤ -32))) →
          t.ports.station.flags.driveLimit = true ∧
          (s.ports.presence = true → t.ports.patron.flags.driveLimit = true)) ∧
        (∀ l f, l ∈ trimLists → Takes s l .trimList f → ∃ shown : Table Int 48,
          (∀ b, shown.get b = if b.val = 2 * c.line.val then moved b else s.health.trims.get b) ∧
          (t.port l).frames = (s.port l).frames.tail ∧ (t.port l).carries (.reply f.tag (.trims shown))) ∧
        (∀ l, l ∉ trimLists → (t.port l).frames = (s.port l).frames)

/-- R16, R18 to R21, R28, R84 to R86, R93, R110, R140: a stroke's completion writes, with VERIFY at 0, the states
its pins were fired toward, and nothing else into sensed; with VERIFY at 1 nothing. It is the next packing point
of the current line, and what every packing point does is what PacksFrom says: the suspension on a HOT module,
the stroke or the wait for charge, the end of a phase, the verify sense or the finish of the line, with the search
for exhausted pins only with VERIFY at 1 after the last round (log entries 11 and 12, DEDUCED). On a line a CANCEL
took, VERIFY as that CANCEL read it says whether a sense pass of the line follows or its target is settled at
once; that the completion, and not the CANCEL, decides whether the assumed states are written there too is read
from R93 and R140 (log entry 21, DEDUCED). -/
def Obligations.StrokeCompletionAndPackingPoint : Prop :=
  (∀ (s : State) (c : Current), PacksFrom (.next (State.andChoose (s.packingPoint c)).settle) s c) ∧
  ∀ (s : State) (r : Stroke), s.modules.operation = some (.stroke r) →
    (s.engine.cancelled = none → ∀ c, s.engine.current = some c → ∃ sensed : Image,
      (s.settings.verify = true → sensed = s.page.sensed) ∧
      (s.settings.verify = false → ∀ ln,
        (∀ p, pinState (sensed.get ln) p =
          if ln = r.line ∧ ∃ k ∈ r.pins, k.pin = p then decide (r.direction = .raise)
          else pinState (s.sensed ln) p)) ∧
      PacksFrom (exec .strokeComplete s) ((s.setPage { s.page with sensed := sensed }).setModules
        { s.modules with operation := none }) c) ∧
    ∃ t, exec .strokeComplete s = .next t ∧
      (s.settings.verify = true → t.page.sensed = s.page.sensed) ∧
      (s.settings.verify = false →
        (∀ p, pinState (t.sensed r.line) p =
          if ∃ k ∈ r.pins, k.pin = p then decide (r.direction = .raise)
          else pinState (s.sensed r.line) p) ∧
        ∀ ln ≠ r.line, t.sensed ln = s.sensed ln) ∧
      (∀ w, s.engine.cancelled = some w → w.verify = true → s.writer.prompt = false →
        t.modules.operation = some (.sense .cancel w.line) ∧ t.engine.state = .sensing ∧
        t.engine.cancelled = some w ∧ t.page.target = s.page.target) ∧
      (∀ w, s.engine.cancelled = some w → w.verify = false → s.owns .localWriter w.line = false →
        t.engine.cancelled = none ∧
        t.target w.line = if w.copyDue then t.sensed w.line else s.target w.line) ∧
      t.stage = s.stage ∧ SameBesideEngine s t

/-- R19, R20, R24, R44, R58, R91, R122: the decision after a verify sense, which finishes the line or begins the
next round at its first packing point (StrokeCompletionAndPackingPoint; the search at a finish which that may
lead to is by log entries 11 and 12, DEDUCED): the round number is one higher, the phase LOWER, no pin is
driven, fired or retargeted in the round, and the attempt counts stay. And the finish of a line. Steps 2 to 4 of
the finish: a zone of the line that is guarded and holds undone work is in the stale zone set, its other zones
are not; with undone work elsewhere the line is in the unsettled line set and in the last unsettled set, else in
neither; a zone that joins starts an absent deadline; the line leaves the queue and lines_done rises by 1. -/
def Obligations.FinishedLineEntersItsSets : Prop :=
  (∀ (states : Content) (trimLists : List Link) (s : State) (c : Current),
    s.modules.operation = some (.sense .verify c.line) →
    s.engine.current = some c → s.engine.cancelled = none →
    let worked : Current := ⟨c.line, { c.round with
      pins := Table.tab fun p => { c.round.pins.get p with drivenSinceSense := false } }⟩
    let following : Current := ⟨c.line, ⟨c.round.number + 1, .lower,
      Table.tab fun p => ⟨(c.round.pins.get p).attempts, false, false, false, false⟩⟩⟩
    let u := (s.endSense c.line states).updateTrims worked (s.sensed c.line) trimLists
    let goesOn (t : State) : Prop :=
      exec (.verifySenseComplete ⟨states, trimLists⟩) s = .next t.settle
    let open_ : Prop := ∃ p, pinState (u.target c.line) p ≠ pinState (u.sensed c.line) p ∧
      u.faultMapped c.line p = false ∧ u.guarded (pinZone c.line p) = false
    (s.settings.retryMax ≤ c.round.number →
      goesOn ((u.recordFaults worked).leaveFinished c.line).choose) ∧
    (c.round.number < s.settings.retryMax → ¬ open_ → goesOn (u.leaveFinished c.line).choose) ∧
    (c.round.number < s.settings.retryMax → open_ →
      goesOn (State.andChoose (u.packingPoint following)) ∧
      PacksFrom (exec (.verifySenseComplete ⟨states, trimLists⟩) s) u following)) ∧
  ∀ (s : State) (l : Line) (r : Refresh), s.engine.refresh = some r →
    let undone (p : LinePin) : Prop :=
      pinState (s.target l) p ≠ pinState (s.sensed l) p ∧ s.faultMapped l p = false
    let waits (z : ZoneId) : Prop :=
      zoneLine z = l ∧ s.guarded z = true ∧ ∃ p, pinZone l p = z ∧ undone p
    let left : Prop := ∃ p, undone p ∧ ¬ waits (pinZone l p)
    let starts : Prop := (∃ z, waits z ∧ s.engine.stale.get z = false) ∧ r.deadline = none ∧
      r.expired = false ∧ 0 < s.settings.deferMs
    let t := s.leaveFinished l
    ∃ (stale : ZoneSet) (marks unsettled : LineSet) (deadline : Option Nat),
      (∀ z, stale.get z = true ↔ waits z ∨ (zoneLine z ≠ l ∧ s.engine.stale.get z = true)) ∧
      (marks.get l = true ↔ left) ∧ (∀ k ≠ l, marks.get k = s.writer.lastUnsettled.get k) ∧
      (unsettled.get l = true ↔ left) ∧ (∀ k ≠ l, unsettled.get k = r.unsettled.get k) ∧
      (starts → deadline = some s.settings.deferMs) ∧ (¬ starts → deadline = r.deadline) ∧
      t = (s.setWriter { s.writer with lastUnsettled := marks }).setEngine
        { s.engine with
          stale := stale
          refresh := some
            { r with unsettled := unsettled, deadline := deadline, linesDone := r.linesDone + 1 }
          queue := s.engine.queue.filter (· != l)
          current := none }

/-- R131, R132, R134, R135: the pins found exhausted at a finish are offered in cell and dot order; while the
fault map has room each is entered at its tail with its kind and the generation, raises new_faults and sends
FAULT_RECORDED to STATION; the others set FAULTMAP_FULL. Nothing else changes. -/
def Obligations.ExhaustedPinsEnterTheFaultMap : Prop :=
  ∀ (s : State) (c : Current) (r : Refresh), s.engine.refresh = some r → s.stage = .running →
    ∃ found entered : List LinePin,
      (∀ p, p ∈ found ↔ pinState (s.target c.line) p ≠ pinState (s.sensed c.line) p ∧
        s.faultMapped c.line p = false ∧ s.guarded (pinZone c.line p) = false ∧
        s.settings.retryMax + 1 ≤ (c.round.pins.get p).attempts) ∧
      found.Pairwise (fun p q =>
        (cellOf p).val < (cellOf q).val ∨ (cellOf p = cellOf q ∧ (dotOf p).val < (dotOf q).val)) ∧
      entered = found.take (64 - s.health.faultMap.length) ∧
      let kind (p : LinePin) : FaultKind :=
        if pinState (s.target c.line) p = true then .stuckLowered else .stuckRaised
      let station := entered.foldl (fun (q : Port) p =>
        q.pushNotice (.faultRecorded c.line (cellOf p) (dotOf p) (kind p))) s.ports.station
      let marked (q : Port) : Port := { q with flags := { q.flags with faultmapFull := true } }
      s.recordFaults c =
        ((s.setHealth { s.health with
          faultMap := s.health.faultMap ++ entered.map fun p =>
            ⟨c.line, cellOf p, dotOf p, kind p, s.engine.generation⟩ }).setEngine
          { s.engine with refresh := some { r with newFaults := r.newFaults + entered.length } }).setPorts
          { s.ports with
            station := if entered.length < found.length then marked station else station
            patron :=
              if entered.length < found.length ∧ s.ports.presence = true then marked s.ports.patron
              else s.ports.patron }

/-! ### The status-line writer -/

/-- R45, R46, R47: a prompt is dropped while a refresh is open or the sweep is not over. Otherwise the status
line of each pane of LOCAL shows, cell by cell, the lines with stale zones or left unsettled by dots 3 and 6
and those with entries in the fault map by dots 7 and 8, and the other lines of the pane are all-lowered;
with no difference from staging nothing is written. Where there is one, staging and target of every line of
LOCAL become that content, a dirty line opens a refresh with the next generation, and with an operation in
flight (so that the engine does not choose at once) its requesters are {LOCAL}. The end of an event answers
its prompt and those that the answers raise, until none is raised. That a prompt is a field of State, and that
an event whose chain of prompts is not over after 4096 answers makes one answer and leaves the next to a step
of its own, is the model's form (log entry 9, DESIGN CHOICE). -/
def Obligations.StatusLineWriterShowsWorkAndFaults : Prop :=
  (∀ s : State, s.writer.prompt = true →
    let work (i : Line) : Prop :=
      (∃ z, zoneLine z = i ∧ s.engine.stale.get z = true) ∨ s.writer.lastUnsettled.get i = true
    let fault (i : Line) : Prop := ∃ e ∈ s.health.faultMap, e.line = i
    let shown (own : Line) (c : Cell) (b : Byte) : Prop :=
      (∀ i : Line, i.val = c.val → i ≠ own →
        (work i → ¬ fault i → b = 36#8) ∧ (¬ work i → fault i → b = 192#8) ∧
        (work i → fault i → b = 228#8) ∧ (¬ work i → ¬ fault i → b = 0#8)) ∧
      (24 ≤ c.val ∨ c.val = own.val → b = 0#8)
    let first (ln : Line) : Prop := ∃ p ∈ s.panes, p.owner = .localWriter ∧ p.first = ln
    let mine (ln : Line) : Prop := s.owns .localWriter ln = true
    let answered : State := s.setWriter { s.writer with prompt := false }
    let t : State := s.answerPrompt
    ((s.engine.refresh.isSome ∨ s.stage ≠ .running) → t = answered ∧ s.settle = answered) ∧
    (s.engine.refresh = none → s.stage = .running → ∃ content : Line → Content,
      (∀ ln, first ln → ∀ c, shown ln c ((content ln).get c)) ∧
      (∀ ln, ¬ first ln → content ln = Table.fill 0) ∧
      ((∀ ln, mine ln → s.staging ln = content ln) → t = answered ∧ s.settle = answered) ∧
      ((∃ ln, mine ln ∧ s.staging ln ≠ content ln) →
        (∀ ln, mine ln → t.staging ln = content ln ∧ t.target ln = content ln) ∧
        (∀ ln, ¬ mine ln → t.staging ln = s.staging ln ∧ t.target ln = s.target ln) ∧
        t.page.sensed = s.page.sensed ∧ SameBesideEngine s t ∧
        let dirty (ln : Line) : Prop := mine ln ∧ (s.target ln ≠ content ln ∨
          ∃ p, pinState (content ln) p ≠ pinState (s.sensed ln) p ∧ s.faultMapped ln p = false)
        ((∃ ln, dirty ln) → t.engine.generation = s.engine.generation + 1 ∧
          (s.quiet = false → ∃ r, t.engine.refresh = some r ∧ r.requesters = ⟨false, false, true⟩)) ∧
        ((∀ ln, ¬ dirty ln) → t.engine.generation = s.engine.generation ∧ t.engine.refresh = none) ∧
        (s.quiet = false → s.settle = t ∧ t.writer = answered.writer ∧ t.ports = s.ports ∧
          t.health = s.health)))) ∧
  ∀ s : State,
    let after (n : Nat) : State := State.answerPrompt^[n] s
    (∃ n, s.settle = after n ∧ s.settle.writer.prompt = false ∧
      ∀ m < n, (after m).writer.prompt = true) ∨
    (s.settle = after 1 ∧ ∀ n ≤ 4096, (after n).writer.prompt = true)

/-! ### Charger, audit, deadline -/

/-- R85, R86, R98 to R101: a charger step adds one unit, FULL at 512, and wakes a waiting packing point only
when Q reaches Q_READY: the wait ends with the packing event, which reads everything afresh. A candidate is
driven; with none left the phase ends, and on a HOT module the line is suspended (PacksFrom; the search at a
finish which that may lead to is by log entries 11 and 12, DEDUCED). The idle interval's expiry empties the
reservoir. -/
def Obligations.ChargerStepsAndIdleExpiry : Prop :=
  ∀ s : State,
    (s.reservoir.charger = .charging → s.writer.prompt = false →
      let filled : Reservoir := ⟨s.reservoir.q + 1,
        if 512 ≤ s.reservoir.q + 1 then .full else .charging, s.reservoir.idle⟩
      ((s.engine.state ≠ .charging ∨ s.engine.current = none ∨
        s.reservoir.q + 1 < s.settings.qReady) → exec .chargerStep s = .next (s.setReservoir filled)) ∧
      (∀ c, s.engine.state = .charging → s.engine.current = some c →
        s.settings.qReady ≤ s.reservoir.q + 1 → s.lineModule c.line ≠ .hot → s.hasCandidate c = true →
        exec .chargerStep s =
          .next ((s.setReservoir filled).fire c ((s.setReservoir filled).formStroke c)))) ∧
    (s.reservoir.charger = .charging → ∀ c, s.engine.state = .charging → s.engine.current = some c →
      s.settings.qReady ≤ s.reservoir.q + 1 →
      PacksFrom (exec .chargerStep s) (s.setReservoir ⟨s.reservoir.q + 1,
        if 512 ≤ s.reservoir.q + 1 then .full else .charging, s.reservoir.idle⟩) c) ∧
    (s.reservoir.idle.isSome →
      exec .chargerIdleExpiry s = .next (s.setReservoir ⟨0, .off, none⟩))

/-- R30, R117: the audit interval's expiry senses the first line, from the audit position on and around, whose
module is READY and that has no guarded zone, and moves the position behind it; with every line skipped, or
with return senses in flight or waiting, the interval alone starts again. -/
def Obligations.AuditSensesTheNextLine : Prop :=
  ∀ s : State, s.engine.auditInterval.isSome →
    let skipped (l : Line) : Prop := s.lineModule l ≠ .ready ∨ ∃ z, zoneLine z = l ∧ s.guarded z = true
    let again : State := s.setEngine { s.engine with
      auditInterval := if s.settings.auditMs = 0 then none else some s.settings.auditMs }
    ((s.quiet = false ∨ s.engine.returnList ≠ []) → exec .auditIntervalExpiry s = .next again) ∧
    (s.quiet = true → s.engine.returnList = [] →
      ((∀ l, skipped l) → exec .auditIntervalExpiry s = .next again) ∧
      (∀ k : Line, ¬ skipped (s.engine.auditPosition + k) →
        (∀ j < k, skipped (s.engine.auditPosition + j)) → ∃ next : Line,
        next.val = ((s.engine.auditPosition + k).val + 1) % 24 ∧
        exec .auditIntervalExpiry s = .next ((s.setEngine { s.engine with
          auditInterval := none
          auditPosition := next
          state := .sensing }).setModules { s.modules with
            operation := some (.sense .audit (s.engine.auditPosition + k)) })))

/-- R15, R17, R24 to R27, R30, R101, R117. The choice: a line waiting for its return sense is sensed first; with
an empty queue the close decision is made; with only lines of modules that are not READY the engine is HELD; of
several lines the first in queue order whose module is READY is taken, by a pre-sense where it is not fresh, at
its first packing point (StrokeCompletionAndPackingPoint) where it is. The close decision, row by row, made at a
CANCEL of `who` or not: the outcome; REFRESH_CLOSED to STATION and to PATRON where they are requesters, but not
to the sender of the CANCEL; the record discarded, the engine IDLE, the audit and idle intervals started, the
status-line writer prompted; or the engine DEFERRED and an absent deadline started; that the decision made at a
CANCEL does not wait for the lines of the return-sense list, the first of which is then sensed, is the model's
reading (log entry 15, DEDUCED). The deadline's expiry makes it absent and sets the expired flag; an engine in
DEFERRED then makes the close decision: on a stale zone it closes PARTIAL, and the zones stay in the set. -/
def Obligations.ChoiceCloseDecisionAndDeadline : Prop :=
  (∀ s : State,
    let senses (k : SenseKind) (l : Line) (current : Option Current) : State :=
      (s.setEngine { s.engine with state := .sensing, current := current }).setModules
        { s.modules with operation := some (.sense k l) }
    (∀ l rest, s.engine.returnList = l :: rest → s.choose = senses .return l s.engine.current) ∧
    (s.engine.returnList = [] →
      (s.engine.queue = [] → s.choose = s.closeDecision none) ∧
      (s.engine.queue ≠ [] → (∀ l ∈ s.engine.queue, s.lineModule l ≠ .ready) →
        s.choose = s.setEngine { s.engine with state := .held }) ∧
      (∀ before l after, s.engine.queue = before ++ l :: after → s.lineModule l = .ready →
        (∀ k ∈ before, s.lineModule k ≠ .ready) →
        (s.page.fresh.get l = false → s.choose = senses .pre l (some ⟨l, startRound⟩)) ∧
        (s.page.fresh.get l = true → s.choose = State.andChoose (s.packingPoint ⟨l, startRound⟩))))) ∧
  (∀ (s : State) (r : Refresh) (who : Option Identity), s.engine.refresh = some r →
    let told (o : CloseOutcome) : Ports :=
      let n : Notice := .refreshClosed ⟨s.engine.generation, o, r.linesDone, s.engine.stale.count,
        r.unsettled.count, r.unavailable.count, r.newFaults, r.clampCount⟩
      { s.ports with
        station :=
          if r.requesters.station = true ∧ who ≠ some .station ∧ s.powered = true then
            s.ports.station.pushNotice n else s.ports.station
        patron :=
          if r.requesters.patron = true ∧ who ≠ some .patron ∧ s.powered = true ∧
              s.ports.presence = true then
            s.ports.patron.pushNotice n else s.ports.patron }
    let timer (ms : Nat) : Option Nat := if ms = 0 then none else some ms
    let back (t : State) : State :=
      match s.engine.returnList with
      | [] => t
      | l :: _ => (t.setEngine { t.engine with state := .sensing }).setModules
          { t.modules with operation := some (.sense .return l) }
    let closed (o : CloseOutcome) : State := back ((((s.setPorts (told o)).setEngine
      { s.engine with
        refresh := none, state := .idle, auditInterval := timer s.settings.auditMs }).setReservoir
      { s.reservoir with idle := timer s.settings.chargerIdleMs }).setWriter
      { s.writer with prompt := true })
    let settled : Prop := ∀ l, r.unsettled.get l = false ∧ r.unavailable.get l = false
    (s.engine.stale.count = 0 → who.isSome → s.closeDecision who = closed .cancelled) ∧
    (s.engine.stale.count = 0 → who = none → settled → s.closeDecision who = closed .complete) ∧
    (s.engine.stale.count = 0 → who = none → ¬ settled → s.closeDecision who = closed .partialWork) ∧
    (0 < s.engine.stale.count → (r.expired = true ∨ s.settings.deferMs = 0) →
      s.closeDecision who = closed .partialWork) ∧
    (0 < s.engine.stale.count → r.expired = false → 0 < s.settings.deferMs →
      s.closeDecision who = back (s.setEngine
        { s.engine with
          state := .deferred
          refresh := some
            { r with deadline := if r.deadline = none then some s.settings.deferMs else r.deadline } }))) ∧
  ∀ (s : State) (r : Refresh), s.engine.refresh = some r → r.deadline.isSome →
    let expired : State := s.setEngine
      { s.engine with refresh := some { r with deadline := none, expired := true } }
    (s.engine.state = .deferred → exec .deadlineExpiry s = .next (expired.closeDecision none).settle) ∧
    (s.engine.state ≠ .deferred → exec .deadlineExpiry s = .next expired) ∧
    (s.engine.state = .deferred → s.ownedLines .localWriter = [] → 0 < s.engine.stale.count →
      ∃ t, exec .deadlineExpiry s = .next t ∧ t.engine.refresh = none ∧
        t.engine.generation = s.engine.generation ∧ t.engine.stale = s.engine.stale ∧
        (s.engine.returnList = [] → t.engine.state = .idle) ∧
        t.reservoir = { s.reservoir with
          idle := if s.settings.chargerIdleMs = 0 then none else some s.settings.chargerIdleMs } ∧
        (r.requesters.station = true → s.powered = true → t.ports.station =
          s.ports.station.pushNotice (.refreshClosed ⟨s.engine.generation, .partialWork, r.linesDone,
            s.engine.stale.count, r.unsettled.count, r.unavailable.count, r.newFaults,
            r.clampCount⟩)) ∧
        (r.requesters.patron = true → s.powered = true → s.ports.presence = true → t.ports.patron =
          s.ports.patron.pushNotice (.refreshClosed ⟨s.engine.generation, .partialWork, r.linesDone,
            s.engine.stale.count, r.unsettled.count, r.unavailable.count, r.newFaults,
            r.clampCount⟩)) ∧
        t.page = s.page ∧ SameBesideEngine s t)

/-! ### Widths, strokes, firing -/

/-- R78, R79, R81: the width W1 = W0 + t × s held within 150 to 3000 µs, and the draw, W ÷ 400 rounded up;
with R76 and R77 for W0. -/
def Obligations.WidthAndDrawOfAPin : Prop :=
  ∀ i : DriveInput,
    let adjust : Int := match i.widthClass with
      | .short => -i.classStep
      | .normal => 0
      | .long => i.classStep
    let n : Int := i.base * (100 + adjust) * (1000 + 4 * (max (-10) (min 70 i.reading) - 25)) *
      (100 + 25 * i.attempt) * 240
    let d : Int := 10000000 * (i.q * 260 / 512 : Nat)
    let w1 : Int := (2 * n + d) / (2 * d) + i.trim * i.trimStep
    let w := (computeDrive i).width
    let draw := (computeDrive i).draw
    (w1 < 150 → w = 150) ∧ (3000 < w1 → w = 3000) ∧ (150 ≤ w1 → w1 ≤ 3000 → (w : Int) = w1) ∧
    150 ≤ w ∧ w ≤ 3000 ∧ ((computeDrive i).clamped = true ↔ w1 < 150 ∨ 3000 < w1) ∧
    400 * (draw - 1) < w ∧ w ≤ 400 * draw ∧ 1 ≤ draw ∧ draw ≤ 8

/-- R68, R69: a neighbour's expected state is its target if it has been driven since the line's last sense
pass or is already taken into the stroke, else its sensed state; the pattern index from the expected states of
the four neighbours; a position off the strip counts as lowered. And the numbering these rest on (R1): the strip
and the position of a pin by its cell and dot (here counted from 0), its bit in the content, its zone, bank and
module, and which pins are adjacent. -/
def Obligations.PatternIndexOfTheNeighbours : Prop :=
  (∀ (p : LinePin) (l : Line) (content : Content),
    let c := (cellOf p).val
    let d := (dotOf p).val
    stripOf p = (if d < 6 then d % 3 else 3) ∧
    positionOf p = 2 * c + (if d = 3 ∨ d = 4 ∨ d = 5 ∨ d = 7 then 1 else 0) ∧
    pinState content p = (content.get (cellOf p)).getLsbD d ∧
    (pinZone l p).val = 4 * l.val + c / 10 ∧ zoneLine (pinZone l p) = l ∧
    (pinBank l p).val = 2 * l.val + (if c < 20 then 0 else 1) ∧
    (moduleOf l).val = l.val / 3 ∧
    ∀ q, (adjacent p q = true ↔ stripOf p = stripOf q ∧
      (positionOf p + 1 = positionOf q ∨ positionOf q + 1 = positionOf p)) ∧
      (cellOf p = cellOf q → dotOf p = dotOf q → p = q)) ∧
  ∀ (s : State) (c : Current) (taken : List LinePin) (p : LinePin) (l2 l1 r2 r3 : Nat),
    let expected (x : LinePin) : Bool :=
      if x ∈ taken ∨ (c.round.pins.get x).drivenSinceSense = true then pinState (s.target c.line) x
      else pinState (s.sensed c.line) x
    let counts (q : Int) (n : Nat) : Prop :=
      (∀ x : LinePin, stripOf x = stripOf p → (positionOf x : Int) = q →
        n = if expected x then 1 else 0) ∧
      (q < 0 ∨ 79 < q → n = 0)
    counts (positionOf p - 2) l2 → counts (positionOf p - 1) l1 →
    counts (positionOf p + 1) r2 → counts (positionOf p + 2) r3 →
    (s.patternIndex c taken p).val = 8 * l2 + 4 * l1 + 2 * r2 + r3

/-- R65 to R67, R70, R72 to R75, R83, R86 to R89: the stroke formed at a packing event: candidates of the line
only, in the order of the walk, no two adjacent, at most 64, with widths, draws and draw sum in their bounds; and
at least one pin when there is a candidate and Q is at least Q_FLOOR + 16. The drive of each pin is computed from
the base width and the class table of the phase, at the pattern index with the pins taken before it, and from
class step, held reading, attempt count, Q, the trim of its bank and the trim step. A candidate that is left out
is adjacent to a pin taken before it, or at its turn the stroke held 64 pins or the draw would have passed the
budget. A module that has held no reading, which no stroke is formed on, counts as 25 °C (log entry 6). -/
def Obligations.FormedStrokeKeepsItsLimits : Prop :=
  ∀ (s : State) (c : Current),
    let ks := s.formStroke c
    ks.length ≤ 64 ∧ (ks.map (·.pin)).Pairwise (· < ·) ∧
    ks.Pairwise (fun a b => adjacent a.pin b.pin = false) ∧
    (∀ k ∈ ks, pinState (s.target c.line) k.pin ≠ pinState (s.sensed c.line) k.pin ∧
      s.faultMapped c.line k.pin = false ∧ s.guarded (pinZone c.line k.pin) = false ∧
      pinState (s.target c.line) k.pin = decide (c.round.phase = .raise) ∧
      (c.round.pins.get k.pin).drivenInPhase = false ∧
      150 ≤ k.drive.width ∧ k.drive.width ≤ 3000 ∧ 1 ≤ k.drive.draw ∧ k.drive.draw ≤ 8) ∧
    (ks.map (·.drive.draw)).sum ≤ s.reservoir.q - s.settings.qFloor ∧
    let raise : Prop := c.round.phase = .raise
    let driveOf (p : LinePin) (taken : List LinePin) : Drive := computeDrive
      { base := if raise then s.settings.baseRaiseUs else s.settings.baseLowerUs
        widthClass := (if raise then s.settings.raiseTable else s.settings.lowerTable).get
          (s.patternIndex c taken p)
        classStep := s.settings.classStepPct
        reading := (s.modules.records.get (moduleOf c.line)).temperature.getD 25
        attempt := (c.round.pins.get p).attempts
        q := s.reservoir.q
        trim := s.health.trims.get
          (if (cellOf p).val < 20 then firstBank c.line else secondBank c.line)
        trimStep := s.settings.trimStepUs }
    (∀ before k after, ks = before ++ k :: after → k.drive = driveOf k.pin (before.map (·.pin))) ∧
    (∀ p, s.mayDrive c p → (∀ k ∈ ks, k.pin ≠ p) →
      let taken := ks.filter fun k => decide (k.pin < p)
      (∃ k ∈ taken, adjacent k.pin p = true) ∨ taken.length = 64 ∨
      s.reservoir.q - s.settings.qFloor <
        (taken.map (·.drive.draw)).sum + (driveOf p (taken.map (·.pin))).draw) ∧
    (s.hasCandidate c = true → s.settings.qFloor + 16 ≤ s.reservoir.q → ks ≠ [])

/-- R83, R90, R91, R92: what a firing does: charge, charger, stroke record, attempt counts and driven sets,
wear, the engine's state; images, settings, panes and zones stay. -/
def Obligations.FiringCountsAndDrawsCharge : Prop :=
  ∀ (s : State) (c : Current) (ks : List Pick),
    let t := s.fire c ks
    t.reservoir = ⟨s.reservoir.q - (ks.map (·.drive.draw)).sum,
      if s.reservoir.charger = .full then .charging else s.reservoir.charger, s.reservoir.idle⟩ ∧
    (∃ r, t.modules = { s.modules with operation := some (.stroke r) } ∧ r.line = c.line ∧
      r.module = moduleOf c.line ∧ r.direction = c.round.phase ∧
      r.pins = ks.map (fun k => ⟨k.pin, k.drive.width, k.drive.draw⟩) ∧
      r.drawSum = (ks.map (·.drive.draw)).sum ∧
      (∀ k ∈ ks, k.drive.width ≤ r.longest) ∧ (ks ≠ [] → ∃ k ∈ ks, k.drive.width = r.longest)) ∧
    t.engine.state = .striking ∧
    (∃ round, t.engine.current = some ⟨c.line, round⟩ ∧ round.number = c.round.number ∧
      round.phase = c.round.phase ∧ ∀ p, round.pins.get p =
        if p ∈ ks.map (·.pin) then
          ⟨(c.round.pins.get p).attempts + 1, true, true, true, (c.round.pins.get p).retargeted⟩
        else c.round.pins.get p) ∧
    (∀ i : Fin 960, t.health.wear.get i = min 4294967295 (s.health.wear.get i +
      ks.countP fun k => decide (40 * c.line.val + (cellOf k.pin).val = i.val))) ∧
    t.health.faultMap = s.health.faultMap ∧ t.health.trims = s.health.trims ∧
    t.page = { s.page with struck := s.page.struck.set c.line true } ∧
    t.settings = s.settings ∧ t.panes = s.panes ∧ t.zones = s.zones ∧ t.store = s.store ∧
    ((∀ k ∈ ks, k.drive.clamped = false) → t.ports = s.ports ∧ t.engine.refresh = s.engine.refresh) ∧
    (∀ r, s.engine.refresh = some r → (∃ k ∈ ks, k.drive.clamped = true) →
      t.engine.refresh = some { r with clampCount := r.clampCount + ks.countP (·.drive.clamped) } ∧
      t.ports.station.flags.driveLimit = true ∧
      t.ports.patron.flags.driveLimit = (s.ports.presence || s.ports.patron.flags.driveLimit))

/-! ### Invariants -/

/-- R96, R98, R102, R171: every setting stays in its range with Q_READY at least Q_FLOOR + 16, Q stays within
0 to 512, is 0 while OFF, and the charger is FULL exactly at 512. -/
def Obligations.StepsKeepSettingsAndReservoir : Prop :=
  ∀ s t : State, ChargeOk s → step s = .next t → ChargeOk t

/-- R132, R142, R146, R148, R150: the fault map holds at most 64 entries and never two for a pin, trims stay
within −32 to +31 and wear counts within their limit, in the working tables, the stored record and the
snapshot of a commit. -/
def Obligations.StepsKeepTheHealthRecords : Prop :=
  ∀ s t : State, TablesOk s → step s = .next t → TablesOk t

/-- R33, R42, R43: the pane records cover every line once, in order, with different ids; PATRON owns no pane
while presence is absent. -/
def Obligations.StepsKeepThePaneTable : Prop :=
  ∀ s t : State, PaneTableOk s ∧ StartOk s → step s = .next t → PaneTableOk t

/-- R161, R162, R176: neither port ever holds more than 512 received bytes, more than 8 waiting notices or more
than one reply. R158: a queue waits only behind a frame in sending. R155: while presence is absent the patron
port is empty. That both ports are empty on a board without power, the clause `PortsOk.unpowered`, is the model's
choice (log entry 7, DESIGN CHOICE). -/
def Obligations.StepsKeepThePorts : Prop :=
  ∀ s t : State, PortsOk s ∧ StartOk s → step s = .next t → PortsOk t

/-- R32, R33, R64, R103: the values held through a record load; R49, R50: zones in step with their readings.
That a board without power holds the values of a load, and its zones CLEAR, which `StartOk.load` and
`StartOk.unread` say of the stage without power too, is the model's choice (log entry 7, DESIGN CHOICE). -/
def Obligations.StepsKeepStartUpAndZones : Prop :=
  ∀ s t : State, StartOk s → step s = .next t → StartOk t

/-- R14, R15, R31, R32, R83, R111: the queue holds no line twice, holds lines only while a refresh is open and only
of modules in service; the current line is in it; at most one operation is in flight, on a module in service
and on behalf of the engine's work, and a stroke record names the module of its line; the engine's state is
the one R31 gives; and before the sweep has completed nothing waits for a return sense or an audit, no zone is
stale and the generation is 0. -/
def Obligations.StepsKeepTheRefreshEngine : Prop :=
  ∀ s t : State, EngineOk s ∧ StartOk s → step s = .next t → EngineOk t

/-- Every invariant holds right after reset. The state right after reset is the model's choice of a new board
to which power has been applied (log entry 5). -/
def Obligations.ResetStateMeetsTheInvariants : Prop :=
  ChargeOk State.reset ∧ TablesOk State.reset ∧ PaneTableOk State.reset ∧ PortsOk State.reset ∧
  StartOk State.reset ∧ EngineOk State.reset
end

