-- ==== Sys2Proof/Laws/State.lean ====
section
/-!
SUPPORT. One law for each field and each update of one block: what a later proof rewrites with instead of
unfolding a record update.
-/

namespace Sys2Proof.Machine.State

variable (s : State)

@[simp] theorem setPending_pending (x : List Instr) : (s.setPending x).pending = x := rfl
@[simp] theorem setPending_stage (x : List Instr) : (s.setPending x).stage = s.stage := rfl
@[simp] theorem setPending_page (x : List Instr) : (s.setPending x).page = s.page := rfl
@[simp] theorem setPending_panes (x : List Instr) : (s.setPending x).panes = s.panes := rfl
@[simp] theorem setPending_writer (x : List Instr) : (s.setPending x).writer = s.writer := rfl
@[simp] theorem setPending_zones (x : List Instr) : (s.setPending x).zones = s.zones := rfl
@[simp] theorem setPending_engine (x : List Instr) : (s.setPending x).engine = s.engine := rfl
@[simp] theorem setPending_modules (x : List Instr) : (s.setPending x).modules = s.modules := rfl
@[simp] theorem setPending_reservoir (x : List Instr) : (s.setPending x).reservoir = s.reservoir := rfl
@[simp] theorem setPending_health (x : List Instr) : (s.setPending x).health = s.health := rfl
@[simp] theorem setPending_store (x : List Instr) : (s.setPending x).store = s.store := rfl
@[simp] theorem setPending_settings (x : List Instr) : (s.setPending x).settings = s.settings := rfl
@[simp] theorem setPending_ports (x : List Instr) : (s.setPending x).ports = s.ports := rfl

@[simp] theorem setStage_pending (x : Stage) : (s.setStage x).pending = s.pending := rfl
@[simp] theorem setStage_stage (x : Stage) : (s.setStage x).stage = x := rfl
@[simp] theorem setStage_page (x : Stage) : (s.setStage x).page = s.page := rfl
@[simp] theorem setStage_panes (x : Stage) : (s.setStage x).panes = s.panes := rfl
@[simp] theorem setStage_writer (x : Stage) : (s.setStage x).writer = s.writer := rfl
@[simp] theorem setStage_zones (x : Stage) : (s.setStage x).zones = s.zones := rfl
@[simp] theorem setStage_engine (x : Stage) : (s.setStage x).engine = s.engine := rfl
@[simp] theorem setStage_modules (x : Stage) : (s.setStage x).modules = s.modules := rfl
@[simp] theorem setStage_reservoir (x : Stage) : (s.setStage x).reservoir = s.reservoir := rfl
@[simp] theorem setStage_health (x : Stage) : (s.setStage x).health = s.health := rfl
@[simp] theorem setStage_store (x : Stage) : (s.setStage x).store = s.store := rfl
@[simp] theorem setStage_settings (x : Stage) : (s.setStage x).settings = s.settings := rfl
@[simp] theorem setStage_ports (x : Stage) : (s.setStage x).ports = s.ports := rfl

@[simp] theorem setPage_pending (x : PageStore) : (s.setPage x).pending = s.pending := rfl
@[simp] theorem setPage_stage (x : PageStore) : (s.setPage x).stage = s.stage := rfl
@[simp] theorem setPage_page (x : PageStore) : (s.setPage x).page = x := rfl
@[simp] theorem setPage_panes (x : PageStore) : (s.setPage x).panes = s.panes := rfl
@[simp] theorem setPage_writer (x : PageStore) : (s.setPage x).writer = s.writer := rfl
@[simp] theorem setPage_zones (x : PageStore) : (s.setPage x).zones = s.zones := rfl
@[simp] theorem setPage_engine (x : PageStore) : (s.setPage x).engine = s.engine := rfl
@[simp] theorem setPage_modules (x : PageStore) : (s.setPage x).modules = s.modules := rfl
@[simp] theorem setPage_reservoir (x : PageStore) : (s.setPage x).reservoir = s.reservoir := rfl
@[simp] theorem setPage_health (x : PageStore) : (s.setPage x).health = s.health := rfl
@[simp] theorem setPage_store (x : PageStore) : (s.setPage x).store = s.store := rfl
@[simp] theorem setPage_settings (x : PageStore) : (s.setPage x).settings = s.settings := rfl
@[simp] theorem setPage_ports (x : PageStore) : (s.setPage x).ports = s.ports := rfl

@[simp] theorem setPanes_pending (x : List Pane) : (s.setPanes x).pending = s.pending := rfl
@[simp] theorem setPanes_stage (x : List Pane) : (s.setPanes x).stage = s.stage := rfl
@[simp] theorem setPanes_page (x : List Pane) : (s.setPanes x).page = s.page := rfl
@[simp] theorem setPanes_panes (x : List Pane) : (s.setPanes x).panes = x := rfl
@[simp] theorem setPanes_writer (x : List Pane) : (s.setPanes x).writer = s.writer := rfl
@[simp] theorem setPanes_zones (x : List Pane) : (s.setPanes x).zones = s.zones := rfl
@[simp] theorem setPanes_engine (x : List Pane) : (s.setPanes x).engine = s.engine := rfl
@[simp] theorem setPanes_modules (x : List Pane) : (s.setPanes x).modules = s.modules := rfl
@[simp] theorem setPanes_reservoir (x : List Pane) : (s.setPanes x).reservoir = s.reservoir := rfl
@[simp] theorem setPanes_health (x : List Pane) : (s.setPanes x).health = s.health := rfl
@[simp] theorem setPanes_store (x : List Pane) : (s.setPanes x).store = s.store := rfl
@[simp] theorem setPanes_settings (x : List Pane) : (s.setPanes x).settings = s.settings := rfl
@[simp] theorem setPanes_ports (x : List Pane) : (s.setPanes x).ports = s.ports := rfl

@[simp] theorem setWriter_pending (x : Writer) : (s.setWriter x).pending = s.pending := rfl
@[simp] theorem setWriter_stage (x : Writer) : (s.setWriter x).stage = s.stage := rfl
@[simp] theorem setWriter_page (x : Writer) : (s.setWriter x).page = s.page := rfl
@[simp] theorem setWriter_panes (x : Writer) : (s.setWriter x).panes = s.panes := rfl
@[simp] theorem setWriter_writer (x : Writer) : (s.setWriter x).writer = x := rfl
@[simp] theorem setWriter_zones (x : Writer) : (s.setWriter x).zones = s.zones := rfl
@[simp] theorem setWriter_engine (x : Writer) : (s.setWriter x).engine = s.engine := rfl
@[simp] theorem setWriter_modules (x : Writer) : (s.setWriter x).modules = s.modules := rfl
@[simp] theorem setWriter_reservoir (x : Writer) : (s.setWriter x).reservoir = s.reservoir := rfl
@[simp] theorem setWriter_health (x : Writer) : (s.setWriter x).health = s.health := rfl
@[simp] theorem setWriter_store (x : Writer) : (s.setWriter x).store = s.store := rfl
@[simp] theorem setWriter_settings (x : Writer) : (s.setWriter x).settings = s.settings := rfl
@[simp] theorem setWriter_ports (x : Writer) : (s.setWriter x).ports = s.ports := rfl

@[simp] theorem setZones_pending (x : Table Zone 96) : (s.setZones x).pending = s.pending := rfl
@[simp] theorem setZones_stage (x : Table Zone 96) : (s.setZones x).stage = s.stage := rfl
@[simp] theorem setZones_page (x : Table Zone 96) : (s.setZones x).page = s.page := rfl
@[simp] theorem setZones_panes (x : Table Zone 96) : (s.setZones x).panes = s.panes := rfl
@[simp] theorem setZones_writer (x : Table Zone 96) : (s.setZones x).writer = s.writer := rfl
@[simp] theorem setZones_zones (x : Table Zone 96) : (s.setZones x).zones = x := rfl
@[simp] theorem setZones_engine (x : Table Zone 96) : (s.setZones x).engine = s.engine := rfl
@[simp] theorem setZones_modules (x : Table Zone 96) : (s.setZones x).modules = s.modules := rfl
@[simp] theorem setZones_reservoir (x : Table Zone 96) : (s.setZones x).reservoir = s.reservoir := rfl
@[simp] theorem setZones_health (x : Table Zone 96) : (s.setZones x).health = s.health := rfl
@[simp] theorem setZones_store (x : Table Zone 96) : (s.setZones x).store = s.store := rfl
@[simp] theorem setZones_settings (x : Table Zone 96) : (s.setZones x).settings = s.settings := rfl
@[simp] theorem setZones_ports (x : Table Zone 96) : (s.setZones x).ports = s.ports := rfl

@[simp] theorem setEngine_pending (x : Engine) : (s.setEngine x).pending = s.pending := rfl
@[simp] theorem setEngine_stage (x : Engine) : (s.setEngine x).stage = s.stage := rfl
@[simp] theorem setEngine_page (x : Engine) : (s.setEngine x).page = s.page := rfl
@[simp] theorem setEngine_panes (x : Engine) : (s.setEngine x).panes = s.panes := rfl
@[simp] theorem setEngine_writer (x : Engine) : (s.setEngine x).writer = s.writer := rfl
@[simp] theorem setEngine_zones (x : Engine) : (s.setEngine x).zones = s.zones := rfl
@[simp] theorem setEngine_engine (x : Engine) : (s.setEngine x).engine = x := rfl
@[simp] theorem setEngine_modules (x : Engine) : (s.setEngine x).modules = s.modules := rfl
@[simp] theorem setEngine_reservoir (x : Engine) : (s.setEngine x).reservoir = s.reservoir := rfl
@[simp] theorem setEngine_health (x : Engine) : (s.setEngine x).health = s.health := rfl
@[simp] theorem setEngine_store (x : Engine) : (s.setEngine x).store = s.store := rfl
@[simp] theorem setEngine_settings (x : Engine) : (s.setEngine x).settings = s.settings := rfl
@[simp] theorem setEngine_ports (x : Engine) : (s.setEngine x).ports = s.ports := rfl

@[simp] theorem setModules_pending (x : ModuleInterface) : (s.setModules x).pending = s.pending := rfl
@[simp] theorem setModules_stage (x : ModuleInterface) : (s.setModules x).stage = s.stage := rfl
@[simp] theorem setModules_page (x : ModuleInterface) : (s.setModules x).page = s.page := rfl
@[simp] theorem setModules_panes (x : ModuleInterface) : (s.setModules x).panes = s.panes := rfl
@[simp] theorem setModules_writer (x : ModuleInterface) : (s.setModules x).writer = s.writer := rfl
@[simp] theorem setModules_zones (x : ModuleInterface) : (s.setModules x).zones = s.zones := rfl
@[simp] theorem setModules_engine (x : ModuleInterface) : (s.setModules x).engine = s.engine := rfl
@[simp] theorem setModules_modules (x : ModuleInterface) : (s.setModules x).modules = x := rfl
@[simp] theorem setModules_reservoir (x : ModuleInterface) : (s.setModules x).reservoir = s.reservoir := rfl
@[simp] theorem setModules_health (x : ModuleInterface) : (s.setModules x).health = s.health := rfl
@[simp] theorem setModules_store (x : ModuleInterface) : (s.setModules x).store = s.store := rfl
@[simp] theorem setModules_settings (x : ModuleInterface) : (s.setModules x).settings = s.settings := rfl
@[simp] theorem setModules_ports (x : ModuleInterface) : (s.setModules x).ports = s.ports := rfl

@[simp] theorem setReservoir_pending (x : Reservoir) : (s.setReservoir x).pending = s.pending := rfl
@[simp] theorem setReservoir_stage (x : Reservoir) : (s.setReservoir x).stage = s.stage := rfl
@[simp] theorem setReservoir_page (x : Reservoir) : (s.setReservoir x).page = s.page := rfl
@[simp] theorem setReservoir_panes (x : Reservoir) : (s.setReservoir x).panes = s.panes := rfl
@[simp] theorem setReservoir_writer (x : Reservoir) : (s.setReservoir x).writer = s.writer := rfl
@[simp] theorem setReservoir_zones (x : Reservoir) : (s.setReservoir x).zones = s.zones := rfl
@[simp] theorem setReservoir_engine (x : Reservoir) : (s.setReservoir x).engine = s.engine := rfl
@[simp] theorem setReservoir_modules (x : Reservoir) : (s.setReservoir x).modules = s.modules := rfl
@[simp] theorem setReservoir_reservoir (x : Reservoir) : (s.setReservoir x).reservoir = x := rfl
@[simp] theorem setReservoir_health (x : Reservoir) : (s.setReservoir x).health = s.health := rfl
@[simp] theorem setReservoir_store (x : Reservoir) : (s.setReservoir x).store = s.store := rfl
@[simp] theorem setReservoir_settings (x : Reservoir) : (s.setReservoir x).settings = s.settings := rfl
@[simp] theorem setReservoir_ports (x : Reservoir) : (s.setReservoir x).ports = s.ports := rfl

@[simp] theorem setHealth_pending (x : Health) : (s.setHealth x).pending = s.pending := rfl
@[simp] theorem setHealth_stage (x : Health) : (s.setHealth x).stage = s.stage := rfl
@[simp] theorem setHealth_page (x : Health) : (s.setHealth x).page = s.page := rfl
@[simp] theorem setHealth_panes (x : Health) : (s.setHealth x).panes = s.panes := rfl
@[simp] theorem setHealth_writer (x : Health) : (s.setHealth x).writer = s.writer := rfl
@[simp] theorem setHealth_zones (x : Health) : (s.setHealth x).zones = s.zones := rfl
@[simp] theorem setHealth_engine (x : Health) : (s.setHealth x).engine = s.engine := rfl
@[simp] theorem setHealth_modules (x : Health) : (s.setHealth x).modules = s.modules := rfl
@[simp] theorem setHealth_reservoir (x : Health) : (s.setHealth x).reservoir = s.reservoir := rfl
@[simp] theorem setHealth_health (x : Health) : (s.setHealth x).health = x := rfl
@[simp] theorem setHealth_store (x : Health) : (s.setHealth x).store = s.store := rfl
@[simp] theorem setHealth_settings (x : Health) : (s.setHealth x).settings = s.settings := rfl
@[simp] theorem setHealth_ports (x : Health) : (s.setHealth x).ports = s.ports := rfl

@[simp] theorem setStore_pending (x : Store) : (s.setStore x).pending = s.pending := rfl
@[simp] theorem setStore_stage (x : Store) : (s.setStore x).stage = s.stage := rfl
@[simp] theorem setStore_page (x : Store) : (s.setStore x).page = s.page := rfl
@[simp] theorem setStore_panes (x : Store) : (s.setStore x).panes = s.panes := rfl
@[simp] theorem setStore_writer (x : Store) : (s.setStore x).writer = s.writer := rfl
@[simp] theorem setStore_zones (x : Store) : (s.setStore x).zones = s.zones := rfl
@[simp] theorem setStore_engine (x : Store) : (s.setStore x).engine = s.engine := rfl
@[simp] theorem setStore_modules (x : Store) : (s.setStore x).modules = s.modules := rfl
@[simp] theorem setStore_reservoir (x : Store) : (s.setStore x).reservoir = s.reservoir := rfl
@[simp] theorem setStore_health (x : Store) : (s.setStore x).health = s.health := rfl
@[simp] theorem setStore_store (x : Store) : (s.setStore x).store = x := rfl
@[simp] theorem setStore_settings (x : Store) : (s.setStore x).settings = s.settings := rfl
@[simp] theorem setStore_ports (x : Store) : (s.setStore x).ports = s.ports := rfl

@[simp] theorem setSettings_pending (x : Settings) : (s.setSettings x).pending = s.pending := rfl
@[simp] theorem setSettings_stage (x : Settings) : (s.setSettings x).stage = s.stage := rfl
@[simp] theorem setSettings_page (x : Settings) : (s.setSettings x).page = s.page := rfl
@[simp] theorem setSettings_panes (x : Settings) : (s.setSettings x).panes = s.panes := rfl
@[simp] theorem setSettings_writer (x : Settings) : (s.setSettings x).writer = s.writer := rfl
@[simp] theorem setSettings_zones (x : Settings) : (s.setSettings x).zones = s.zones := rfl
@[simp] theorem setSettings_engine (x : Settings) : (s.setSettings x).engine = s.engine := rfl
@[simp] theorem setSettings_modules (x : Settings) : (s.setSettings x).modules = s.modules := rfl
@[simp] theorem setSettings_reservoir (x : Settings) : (s.setSettings x).reservoir = s.reservoir := rfl
@[simp] theorem setSettings_health (x : Settings) : (s.setSettings x).health = s.health := rfl
@[simp] theorem setSettings_store (x : Settings) : (s.setSettings x).store = s.store := rfl
@[simp] theorem setSettings_settings (x : Settings) : (s.setSettings x).settings = x := rfl
@[simp] theorem setSettings_ports (x : Settings) : (s.setSettings x).ports = s.ports := rfl

@[simp] theorem setPorts_pending (x : Ports) : (s.setPorts x).pending = s.pending := rfl
@[simp] theorem setPorts_stage (x : Ports) : (s.setPorts x).stage = s.stage := rfl
@[simp] theorem setPorts_page (x : Ports) : (s.setPorts x).page = s.page := rfl
@[simp] theorem setPorts_panes (x : Ports) : (s.setPorts x).panes = s.panes := rfl
@[simp] theorem setPorts_writer (x : Ports) : (s.setPorts x).writer = s.writer := rfl
@[simp] theorem setPorts_zones (x : Ports) : (s.setPorts x).zones = s.zones := rfl
@[simp] theorem setPorts_engine (x : Ports) : (s.setPorts x).engine = s.engine := rfl
@[simp] theorem setPorts_modules (x : Ports) : (s.setPorts x).modules = s.modules := rfl
@[simp] theorem setPorts_reservoir (x : Ports) : (s.setPorts x).reservoir = s.reservoir := rfl
@[simp] theorem setPorts_health (x : Ports) : (s.setPorts x).health = s.health := rfl
@[simp] theorem setPorts_store (x : Ports) : (s.setPorts x).store = s.store := rfl
@[simp] theorem setPorts_settings (x : Ports) : (s.setPorts x).settings = s.settings := rfl
@[simp] theorem setPorts_ports (x : Ports) : (s.setPorts x).ports = x := rfl

end Sys2Proof.Machine.State
end

