-- ==== Sys2Proof/Laws/Basics.lean ====
section
/-!
SUPPORT. Laws of tables, of the numbering of pins and of cell bytes.
-/

namespace Sys2Proof

namespace Table

variable {α : Type} {n : Nat}

@[simp] theorem get_set_same (t : Table α n) (i : Fin n) (x : α) : (t.set i x).get i = x := by
  change (t.cells.set i.val x)[i.val]'_ = x
  exact List.getElem_set_self _

theorem get_set_other (t : Table α n) {i j : Fin n} (x : α) (h : i ≠ j) : (t.set i x).get j = t.get j := by
  have : i.val ≠ j.val := fun e => h (Fin.ext e)
  change (t.cells.set i.val x)[j.val]'_ = t.cells[j.val]'_
  exact List.getElem_set_ne this _

theorem get_set (t : Table α n) (i j : Fin n) (x : α) :
    (t.set i x).get j = if i = j then x else t.get j := by
  by_cases h : i = j
  · subst h; simp
  · simp [h, get_set_other t x h]

@[simp] theorem get_tab (f : Fin n → α) (i : Fin n) : (tab f).get i = f i := by
  have h : ((List.finRange n).map f)[i.val]'(by simp) = f i := by simp
  exact h

@[simp] theorem get_fill (x : α) (i : Fin n) : (fill x : Table α n).get i = x := by
  simp [get, fill]

/-- Two tables with the same entries are the same. -/
theorem ext_get {t u : Table α n} (h : ∀ i, t.get i = u.get i) : t = u := by
  obtain ⟨a, ha⟩ := t
  obtain ⟨b, hb⟩ := u
  have : a = b := by
    apply List.ext_getElem (by omega)
    intro i h1 h2
    have := h ⟨i, by omega⟩
    simpa [get] using this
  subst this
  rfl

theorem set_get_self (t : Table α n) (i : Fin n) : t.set i (t.get i) = t := by
  apply ext_get
  intro j
  rw [get_set]
  split
  · rename_i h; rw [h]
  · rfl

theorem mem_members (t : Table Bool n) (i : Fin n) : i ∈ t.members ↔ t.get i = true := by
  simp [members, List.mem_finRange]

/-- An entry is one of the list the table holds. -/
theorem get_mem (t : Table α n) (i : Fin n) : t.get i ∈ t.cells := by
  simp [get]

/-- What the list of a table holds is some entry. -/
theorem mem_cells (t : Table α n) {x : α} (h : x ∈ t.cells) : ∃ i, t.get i = x := by
  obtain ⟨k, hk, hx⟩ := List.getElem_of_mem h
  refine ⟨⟨k, ?_⟩, ?_⟩
  · have := t.size; omega
  · simpa [get] using hx

theorem cells_tab (f : Fin n → α) : (tab f).cells = (List.finRange n).map f := rfl

end Table

namespace Machine

theorem cellOf_pinAt (c : Cell) (d : Dot) : cellOf (pinAt c d) = c := by
  revert c d; decide +kernel

theorem dotOf_pinAt (c : Cell) (d : Dot) : dotOf (pinAt c d) = d := by
  revert c d; decide +kernel

theorem pinAt_cellOf_dotOf (p : LinePin) : pinAt (cellOf p) (dotOf p) = p := by
  revert p; decide +kernel

/-- A pin is known by its cell and dot. -/
theorem pin_ext {p q : LinePin} (hc : cellOf p = cellOf q) (hd : dotOf p = dotOf q) : p = q := by
  rw [← pinAt_cellOf_dotOf p, ← pinAt_cellOf_dotOf q, hc, hd]

theorem getLsbD_byteOf (f : Dot → Bool) (d : Dot) : (byteOf f).getLsbD d.val = f d := by
  have h : byteOf f = BitVec.ofBoolListLE [f 0, f 1, f 2, f 3, f 4, f 5, f 6, f 7] := rfl
  rw [h]
  simp only [BitVec.ofBoolListLE, BitVec.getLsbD_concat]
  fin_cases d <;> rfl

/-- A content made from pin states has those states. -/
@[simp] theorem pinState_contentOf (f : LinePin → Bool) (p : LinePin) :
    pinState (contentOf f) p = f p := by
  unfold pinState contentOf
  rw [Table.get_tab, getLsbD_byteOf, pinAt_cellOf_dotOf]

theorem mem_allPins (p : LinePin) : p ∈ allPins := List.mem_finRange p

theorem mem_allLines (l : Line) : l ∈ allLines := List.mem_finRange l

theorem mem_linesOf (m : ModuleId) (l : Line) : l ∈ linesOf m ↔ moduleOf l = m := by
  revert m l; decide +kernel

theorem mem_zonesOf (l : Line) (z : ZoneId) : z ∈ zonesOf l ↔ zoneLine z = l := by
  revert l z; decide +kernel

theorem zoneLine_pinZone (l : Line) (p : LinePin) : zoneLine (pinZone l p) = l := by
  revert l p; decide +kernel

/-- Every pin of a line lies in one of its two banks. -/
theorem pinBank_eq (l : Line) (p : LinePin) : pinBank l p = firstBank l ∨ pinBank l p = secondBank l := by
  revert l p; decide +kernel

theorem firstBank_ne_secondBank (l : Line) : firstBank l ≠ secondBank l := by
  revert l; decide +kernel

end Machine

end Sys2Proof
end

