-- ==== Sys2Proof/Laws/Frames.lean ====
section
/-!
SUPPORT. What the refresh engine's operations leave unchanged (SameBesideEngine), and that the two stops
have their names. One lemma for each shared operation, cited instead of unfolding it.
-/

namespace Sys2Proof.Machine

namespace SameBesideEngine

theorem refl (s : State) : SameBesideEngine s s := ⟨rfl, rfl, rfl, rfl, rfl, rfl, rfl, rfl, rfl, rfl⟩

theorem trans {s t u : State} (h : SameBesideEngine s t) (k : SameBesideEngine t u) :
    SameBesideEngine s u :=
  ⟨k.pending.trans h.pending, k.panes.trans h.panes, k.zones.trans h.zones, k.settings.trans h.settings,
   k.store.trans h.store, k.records.trans h.records, k.present.trans h.present, k.trims.trans h.trims,
   k.presence.trans h.presence, k.resetWait.trans h.resetWait⟩

/-- A fold of steps that keep the blocks beside the engine keeps them. -/
theorem foldl {α : Type} (f : State → α → State) (hf : ∀ s a, SameBesideEngine s (f s a)) (l : List α) :
    ∀ s, SameBesideEngine s (l.foldl f s) := by
  induction l with
  | nil => exact refl
  | cons a l ih => exact fun s => (hf s a).trans (ih (f s a))

variable (s : State)

theorem setEngine (x : Engine) : SameBesideEngine s (s.setEngine x) :=
  ⟨rfl, rfl, rfl, rfl, rfl, rfl, rfl, rfl, rfl, rfl⟩
theorem setPage (x : PageStore) : SameBesideEngine s (s.setPage x) :=
  ⟨rfl, rfl, rfl, rfl, rfl, rfl, rfl, rfl, rfl, rfl⟩
theorem setReservoir (x : Reservoir) : SameBesideEngine s (s.setReservoir x) :=
  ⟨rfl, rfl, rfl, rfl, rfl, rfl, rfl, rfl, rfl, rfl⟩
theorem setWriter (x : Writer) : SameBesideEngine s (s.setWriter x) :=
  ⟨rfl, rfl, rfl, rfl, rfl, rfl, rfl, rfl, rfl, rfl⟩
theorem setStage (x : Stage) : SameBesideEngine s (s.setStage x) :=
  ⟨rfl, rfl, rfl, rfl, rfl, rfl, rfl, rfl, rfl, rfl⟩
theorem setOperation (x : Option Operation) : SameBesideEngine s (s.setOperation x) :=
  ⟨rfl, rfl, rfl, rfl, rfl, rfl, rfl, rfl, rfl, rfl⟩
theorem setHealth (x : Health) (h : x.trims = s.health.trims) : SameBesideEngine s (s.setHealth x) :=
  ⟨rfl, rfl, rfl, rfl, rfl, rfl, rfl, h, rfl, rfl⟩
theorem setPort (l : Link) (p : Port) : SameBesideEngine s (s.setPort l p) := by
  cases l <;> exact ⟨rfl, rfl, rfl, rfl, rfl, rfl, rfl, rfl, rfl, rfl⟩
theorem flagBoth (f : Port → Port) : SameBesideEngine s (s.flagBoth f) :=
  ⟨rfl, rfl, rfl, rfl, rfl, rfl, rfl, rfl, rfl, rfl⟩

theorem notify (l : Link) (n : Notice) : SameBesideEngine s (s.notify l n) := by
  unfold State.notify
  split
  · exact setPort s _ _
  · exact refl s

theorem putStaging (l : Line) (c : Content) : SameBesideEngine s (s.putStaging l c) := setPage s _
theorem putTarget (l : Line) (c : Content) : SameBesideEngine s (s.putTarget l c) := setPage s _
theorem clearFresh (l : Line) : SameBesideEngine s (s.clearFresh l) := setPage s _
theorem writeSense (l : Line) (c : Content) : SameBesideEngine s (s.writeSense l c) := setPage s _
theorem endSense (l : Line) (c : Content) : SameBesideEngine s (s.endSense l c) :=
  (writeSense s l c).trans (setOperation _ _)
theorem updRefresh (f : Refresh → Refresh) : SameBesideEngine s (s.updRefresh f) := setEngine s _
theorem setEngineState (x : EngineState) : SameBesideEngine s (s.setEngineState x) := setEngine s _
theorem startSense (k : SenseKind) (l : Line) : SameBesideEngine s (s.startSense k l) :=
  (setOperation s _).trans (setEngineState _ _)
theorem promptWriter : SameBesideEngine s s.promptWriter := setWriter s _
theorem promptIf (b : Bool) : SameBesideEngine s (s.promptIf b) := by
  unfold State.promptIf
  split
  · exact promptWriter s
  · exact refl s

theorem startReturn : SameBesideEngine s s.startReturn := by
  unfold State.startReturn
  split
  · exact refl s
  · exact startSense s _ _

theorem goIdle : SameBesideEngine s s.goIdle := (setEngine s _).trans (startReturn _)

theorem sendClosed (r : Refresh) (o : CloseOutcome) (e : Option Identity) :
    SameBesideEngine s (s.sendClosed r o e) := by
  unfold State.sendClosed
  dsimp only
  split <;> split
  · exact (notify s _ _).trans (notify _ _ _)
  · exact notify s _ _
  · exact notify s _ _
  · exact refl s

theorem closeRefresh (r : Refresh) (o : CloseOutcome) (e : Option Identity) :
    SameBesideEngine s (s.closeRefresh r o e) :=
  (sendClosed s r o e).trans
    ((setEngine _ _).trans ((setReservoir _ _).trans ((promptWriter _).trans (goIdle _))))

theorem closeDecision (who : Option Identity) : SameBesideEngine s (s.closeDecision who) := by
  unfold State.closeDecision
  split
  · exact refl s
  · repeat' split
    all_goals first
      | exact closeRefresh s _ _ _
      | exact (updRefresh s _).trans ((setEngineState _ _).trans (startReturn _))

theorem offerPin (l : Line) (p : LinePin) : SameBesideEngine s (State.offerPin l s p) := by
  unfold State.offerPin
  split
  · dsimp only
    refine (setHealth s _ ?_).trans ((updRefresh _ _).trans (notify _ _ _))
    rfl
  · exact flagBoth s _

theorem recordFaults (c : Current) : SameBesideEngine s (s.recordFaults c) :=
  foldl _ (fun s p => offerPin s c.line p) _ s

theorem leaveFinished (l : Line) : SameBesideEngine s (s.leaveFinished l) :=
  (setWriter s _).trans (setEngine _ _)

theorem finishLine (c : Current) (b : Bool) : SameBesideEngine s (s.finishLine c b) := by
  unfold State.finishLine
  split
  · exact (recordFaults s c).trans (leaveFinished _ _)
  · exact leaveFinished s _

theorem suspend (c : Current) : SameBesideEngine s (s.suspend c) := by
  unfold State.suspend
  dsimp only
  split
  · exact (setEngine s _).trans (clearFresh _ _)
  · exact setEngine s _

theorem countClamps (n : Nat) : SameBesideEngine s (s.countClamps n) := by
  unfold State.countClamps
  split
  · exact refl s
  · exact (updRefresh s _).trans (flagBoth _ _)

theorem fire (c : Current) (ks : List Pick) : SameBesideEngine s (s.fire c ks) := by
  unfold State.fire
  dsimp only
  refine (setReservoir s _).trans ((setPage _ _).trans ((setHealth _ _ ?_).trans
    ((countClamps _ _).trans ((setOperation _ _).trans (setEngine _ _)))))
  rfl

theorem packOrWait (c : Current) : SameBesideEngine s (s.packOrWait c) := by
  unfold State.packOrWait
  split
  · exact fire s c _
  · exact setEngine s _

theorem endRaise (c : Current) : SameBesideEngine s (s.endRaise c).1 := by
  unfold State.endRaise
  split
  · exact (setEngine s _).trans (startSense _ _ _)
  · exact finishLine s c _

theorem packingPoint (c : Current) : SameBesideEngine s (s.packingPoint c).1 := by
  unfold State.packingPoint
  repeat' first
    | split
    | dsimp only
  all_goals first
    | exact suspend s c
    | exact packOrWait s _
    | exact endRaise s _

theorem takeLine (l : Line) : SameBesideEngine s (s.takeLine l).1 := by
  unfold State.takeLine
  dsimp only
  split
  · exact packingPoint s _
  · exact (setEngine s _).trans (startSense _ _ _)

theorem chooseLoop (n : Nat) : ∀ s, SameBesideEngine s (State.chooseLoop n s) := by
  induction n with
  | zero => exact refl
  | succ n ih =>
    intro s
    unfold State.chooseLoop
    split
    · exact startReturn s
    · split
      · exact closeDecision s _
      · split
        · exact setEngineState s _
        · rename_i l _
          have h := takeLine s l
          generalize s.takeLine l = r at h ⊢
          obtain ⟨t, again⟩ := r
          dsimp only at h ⊢
          split
          · exact h.trans (ih t)
          · exact h

theorem choose : SameBesideEngine s s.choose := chooseLoop _ s

theorem andChoose {r : State × Bool} (h : SameBesideEngine s r.1) :
    SameBesideEngine s (State.andChoose r) := by
  unfold State.andChoose
  split
  · exact h.trans (choose _)
  · exact h

theorem kick : SameBesideEngine s s.kick := by
  unfold State.kick
  repeat' split
  all_goals first
    | exact refl s
    | exact choose s

theorem appendLine (l : Line) : SameBesideEngine s (s.appendLine l) := by
  unfold State.appendLine
  split
  · exact setEngine s _
  · exact updRefresh s _

theorem appendLines (ls : List Line) : SameBesideEngine s (s.appendLines ls) := foldl _ appendLine ls s

theorem openRefresh (who : Requesters) (ls : List Line) : SameBesideEngine s (s.openRefresh who ls) :=
  (setEngine s _).trans ((setReservoir _ _).trans (appendLines _ _))

theorem mergeRefresh (r : Refresh) (who : Identity) (ls : List Line) :
    SameBesideEngine s (s.mergeRefresh r who ls) :=
  (sendClosed s _ _ _).trans ((setEngine _ _).trans ((appendLines _ _).trans (updRefresh _ _)))

theorem handLines (who : Identity) (ls : List Line) : SameBesideEngine s (s.handLines who ls) := by
  unfold State.handLines
  split
  · exact refl s
  · split
    · exact (openRefresh s _ _).trans (kick _)
    · exact (mergeRefresh s _ _ _).trans (kick _)

theorem catchUp (ls : List Line) : SameBesideEngine s (s.catchUp ls) := by
  unfold State.catchUp
  repeat' split
  all_goals first
    | exact appendLines s _
    | exact openRefresh s _ _
    | exact refl s

theorem commitLine (l : Line) : SameBesideEngine s (s.commitLine l) :=
  (putTarget s _ _).trans (setEngine _ _)

theorem commitLines (ls : List Line) : SameBesideEngine s (s.commitLines ls) := foldl _ commitLine ls s

theorem commit (who : Identity) (ls : List Line) : SameBesideEngine s (s.commit who ls) :=
  (commitLines s ls).trans (handLines _ _ _)

theorem endCancel (w : CancelWork) : SameBesideEngine s (s.endCancel w) := by
  unfold State.endCancel
  dsimp only
  split <;> split
  all_goals first
    | exact (putTarget s _ _).trans ((setEngine _ _).trans (closeDecision _ _))
    | exact (putTarget s _ _).trans ((setEngine _ _).trans (choose _))
    | exact (setEngine s _).trans (closeDecision _ _)
    | exact (setEngine s _).trans (choose _)

theorem dropModuleLines (m : ModuleId) : SameBesideEngine s (s.dropModuleLines m) := setEngine s _

theorem clearModuleFresh (m : ModuleId) : SameBesideEngine s (s.clearModuleFresh m) :=
  foldl _ clearFresh _ s

theorem continueReturn : SameBesideEngine s s.continueReturn := by
  unfold State.continueReturn
  repeat' split
  all_goals first
    | exact startReturn s
    | exact choose s
    | exact goIdle s

theorem addReturn (l : Line) : SameBesideEngine s (s.addReturn l) := by
  unfold State.addReturn
  split
  · exact refl s
  · exact setEngine s _

theorem kickReturn : SameBesideEngine s s.kickReturn := by
  unfold State.kickReturn
  split
  · exact startReturn s
  · exact refl s

theorem setBoth (l : Line) (c : Content) : SameBesideEngine s (s.setBoth l c) :=
  (putStaging s l c).trans (putTarget _ l c)

theorem completeSweep : SameBesideEngine s s.completeSweep := by
  unfold State.completeSweep
  dsimp only
  split
  · exact (setStage s _).trans ((foldl _ (fun s l => setBoth s l _) _ _).trans (goIdle _))
  · exact (setStage s _).trans ((foldl _ (fun s l => setBoth s l _) _ _).trans
      ((openRefresh _ _ _).trans (kick _)))

theorem continueSweep : SameBesideEngine s s.continueSweep := by
  unfold State.continueSweep
  split
  · exact refl s
  · split
    · exact (setEngine s _).trans (startSense _ _ _)
    · split
      · exact completeSweep s
      · exact refl s

theorem blankLine (l : Line) : SameBesideEngine s (s.blankLine l) := setPage s _

theorem blankLines (ls : List Line) : SameBesideEngine s (s.blankLines ls) := foldl _ blankLine ls s

theorem sweepFaulted (m : ModuleId) : SameBesideEngine s (s.sweepFaulted m) :=
  (setEngine s _).trans (blankLines _ _)

theorem recompute : SameBesideEngine s s.recompute := by
  unfold State.recompute
  dsimp only
  split
  · exact refl s
  · exact (foldl _ (fun s l => putStaging s l _) _ s).trans (commit _ _ _)

theorem answerPrompt : SameBesideEngine s s.answerPrompt := by
  unfold State.answerPrompt
  dsimp only
  split
  · split
    · exact (setWriter s _).trans (recompute _)
    · exact setWriter s _
  · exact refl s

theorem answerPrompts (n : Nat) : ∀ s, SameBesideEngine s (State.answerPrompts n s) := by
  induction n with
  | zero => exact refl
  | succ n ih =>
    intro s
    unfold State.answerPrompts
    split
    · exact (answerPrompt s).trans (ih _)
    · exact refl s

theorem settle : SameBesideEngine s s.settle := by
  unfold State.settle
  dsimp only
  split
  · exact answerPrompt s
  · exact answerPrompts _ s

theorem stagingToTarget (ls : List Line) : SameBesideEngine s (s.stagingToTarget ls) :=
  foldl _ (fun s l => putStaging s l _) ls s

end SameBesideEngine

/-! ### The prompts of the status-line writer (R45) -/

@[simp] theorem answerPrompt_of_no_prompt {s : State} (h : s.writer.prompt = false) :
    s.answerPrompt = s := by simp [State.answerPrompt, h]

@[simp] theorem answerPrompts_of_no_prompt (n : Nat) {s : State} (h : s.writer.prompt = false) :
    State.answerPrompts n s = s := by cases n <;> simp [State.answerPrompts, h]

/-- With no prompt raised an event has nothing to settle. -/
theorem settle_of_no_prompt {s : State} (h : s.writer.prompt = false) : s.settle = s := by
  simp [State.settle, h]

/-- Answers in a row are answers made one by one. -/
theorem answerPrompts_eq_iterate (n : Nat) :
    ∀ s : State, State.answerPrompts n s = State.answerPrompt^[n] s := by
  induction n with
  | zero => intro s; rfl
  | succ n ih =>
    intro s
    unfold State.answerPrompts
    rw [Function.iterate_succ_apply]
    split
    · exact ih _
    · rename_i h
      rw [answerPrompt_of_no_prompt (by simpa using h), ← ih,
        answerPrompts_of_no_prompt n (by simpa using h)]

/-- All an event's end can do: the whole chain of its prompts, or, where that does not end, one answer. -/
theorem settle_eq (s : State) :
    s.settle =
      if (State.answerPrompt^[Config.recomputeLimit] s).writer.prompt then s.answerPrompt
      else State.answerPrompt^[Config.recomputeLimit] s := by
  unfold State.settle
  rw [answerPrompts_eq_iterate]

/-! ### Ports -/

@[simp] theorem port_setPort_same (s : State) (l : Link) (p : Port) : (s.setPort l p).port l = p := by
  cases l <;> rfl

theorem port_setPort_other (s : State) {l k : Link} (p : Port) (h : l ≠ k) :
    (s.setPort l p).port k = s.port k := by
  cases l <;> cases k <;> first | rfl | exact absurd rfl h

/-- Taking a frame of the kind named either refuses it at the screening or serves it. -/
theorem take_of_takes {s : State} {l : Link} {k : RequestKind} {f : Frame} (h : Takes s l k f)
    (serve : Service) :
    s.take l k serve =
      match serve (s.popFrame l) f with
      | .error why => .next (s.turnedAway l f why)
      | .ok u => .next u := by
  obtain ⟨h1, h2, h3⟩ := h
  unfold State.take
  rw [h1]
  simp only [h2, if_true, h3]
  rfl

/-- A port put twice is the port put last. -/
@[simp] theorem setPort_setPort (s : State) (l : Link) (p q : Port) :
    (s.setPort l p).setPort l q = s.setPort l q := by cases l <;> rfl

@[simp] theorem setPort_self (s : State) (l : Link) : s.setPort l (s.port l) = s := by cases l <;> rfl

/-! ### The trim updates of a verify -/

/-- A TRIM_LIST taken between the two trim updates changes the port of its link alone. -/
theorem takeTrimList_eq (s : State) (l : Link) : ∃ p, s.takeTrimList l = s.setPort l p := by
  unfold State.takeTrimList execTrimList State.take
  split
  · rename_i t h
    split at h
    · cases h
    · split at h
      · dsimp only at h
        split at h
        · cases h; exact ⟨_, setPort_setPort _ _ _ _⟩
        · cases h; exact ⟨_, setPort_setPort _ _ _ _⟩
      · cases h
  · exact ⟨_, (setPort_self s l).symm⟩

/-- TRIM_LISTs taken between the two trim updates leave the health records as they are. -/
@[simp] theorem health_takeTrimLists (ls : List Link) :
    ∀ s : State, (ls.foldl State.takeTrimList s).health = s.health := by
  induction ls with
  | nil => intro s; rfl
  | cons l ls ih =>
    intro s
    obtain ⟨p, hp⟩ := takeTrimList_eq s l
    rw [List.foldl_cons, ih, hp]
    cases l <;> rfl

/-- Handing over one bank moves its trim and no other (R143). -/
theorem trims_handBank (s : State) (c : Current) (previous : Content) (b : BankId) :
    (s.handBank c previous b).health.trims =
      s.health.trims.set b (trimUpdate (s.health.trims.get b) (s.classCount c previous b .underStroke)
        (s.classCount c previous b .disturbed)) := by
  unfold State.handBank State.updateTrim
  dsimp only
  split <;> rfl

end Sys2Proof.Machine
end

