-- ==== Sys2Proof/Laws/Follows.lean ====
section
/-!
SUPPORT. What the operations that end an event do: the choice, the end of a CANCEL's work, of an audit or
return sense, a catch-up, a module's leaving service, a packing point and the sweep, in the terms of Safety.lean.
-/

namespace Sys2Proof.Machine

/-! ### The choice -/

/-- The engine chooses after a kick exactly where it may. -/
theorem choosesFrom_kick (s : State) : ChoosesFrom (.next s.kick.settle) s where
  choice h := by
    obtain ⟨h1, h2, h3, h4⟩ := h
    have hd : ¬ (s.engine.state = .deferred ∧ s.engine.queue = []) := fun hx => h4 hx.1 hx.2
    simp [State.kick, h1, h2, h3, hd]
  stays h := by
    unfold State.kick
    split
    · rename_i hc
      simp only [Bool.and_eq_true, Option.isNone_iff_eq_none] at hc
      obtain ⟨⟨h1, h2⟩, h3⟩ := hc
      split
      · rfl
      · rename_i hd
        exact absurd ⟨h1, h2, h3, fun hs hq => hd ⟨hs, hq⟩⟩ h
    · rfl

theorem chooseLoop_succ (n : Nat) (s : State) :
    State.chooseLoop (n + 1) s =
      if !s.engine.returnList.isEmpty then s.startReturn
      else if s.engine.queue.isEmpty then s.closeDecision none
      else
        match s.nextReady with
        | none => s.setEngineState .held
        | some l => if (s.takeLine l).2 then State.chooseLoop n (s.takeLine l).1 else (s.takeLine l).1 := rfl

@[simp] theorem engine_notify (s : State) (l : Link) (n : Notice) : (s.notify l n).engine = s.engine := by
  unfold State.notify
  split
  · cases l <;> rfl
  · rfl

@[simp] theorem engine_offerPin_queue (l : Line) (s : State) (p : LinePin) :
    (State.offerPin l s p).engine.queue = s.engine.queue := by
  unfold State.offerPin
  split
  · dsimp only
    rw [engine_notify]
    rfl
  · rfl

@[simp] theorem engine_recordFaults_queue (s : State) (c : Current) :
    (s.recordFaults c).engine.queue = s.engine.queue := by
  unfold State.recordFaults
  generalize pinsByCell.filter (s.exhausted c) = ps
  induction ps generalizing s with
  | nil => rfl
  | cons p ps ih => rw [List.foldl_cons, ih, engine_offerPin_queue]

/-- The finished line has left the queue (R20). -/
theorem finishLine_queue (s : State) (c : Current) (search : Bool) :
    (s.finishLine c search).engine.queue = s.engine.queue.filter (· != c.line) := by
  unfold State.finishLine
  cases search
  · rfl
  · show ((s.recordFaults c).engine.queue.filter _) = _
    rw [engine_recordFaults_queue]

/-- A packing point of a line whose module is not HOT after which the engine chooses again has finished the
line. -/
theorem packingPoint_again_queue (s : State) (c : Current) (ready : s.lineModule c.line ≠ .hot)
    (again : (s.packingPoint c).2 = true) :
    (s.packingPoint c).1.engine.queue = s.engine.queue.filter (· != c.line) := by
  have raise : ∀ d : Current, d.line = c.line → (s.endRaise d).2 = true →
      (s.endRaise d).1.engine.queue = s.engine.queue.filter (· != c.line) := by
    intro d hd h
    unfold State.endRaise at h ⊢
    split at h
    · cases h
    · rename_i hn
      simp only [hn]
      rw [← hd]
      exact finishLine_queue s d _
  revert again
  unfold State.packingPoint
  rw [if_neg ready]
  cases s.hasCandidate c with
  | true => exact fun h => nomatch h
  | false =>
    cases c.round.phase with
    | raise => exact raise c rfl
    | lower =>
      by_cases h : s.hasCandidate ⟨c.line, c.round.enterPhase .raise⟩ = true
      · simp [h]
      · simp only [h, Bool.false_eq_true, if_false]
        exact raise ⟨c.line, c.round.enterPhase .raise⟩ rfl

/-- A line taken after which the engine chooses again has left the queue, which is shorter. -/
theorem takeLine_again_queue (s : State) (l : Line) (ready : s.nextReady = some l)
    (again : (s.takeLine l).2 = true) :
    (s.takeLine l).1.engine.queue.length < s.engine.queue.length := by
  have hmem : l ∈ s.engine.queue := List.mem_of_find?_eq_some ready
  have hready : s.lineModule l = .ready := by
    have h := List.find?_some ready
    simpa using h
  unfold State.takeLine at again ⊢
  dsimp only at again ⊢
  split at again
  · rename_i hf
    simp only [hf, if_true]
    rw [packingPoint_again_queue s ⟨l, startRound⟩ (by simp [hready]) again]
    exact List.length_filter_lt_length_iff_exists.mpr ⟨l, hmem, by simp⟩
  · cases again

/-- Fuel above the length of the queue is never used up. -/
theorem chooseLoop_fuel (n : Nat) : ∀ (m : Nat) (s : State), s.engine.queue.length < n →
    s.engine.queue.length < m → State.chooseLoop n s = State.chooseLoop m s := by
  induction n with
  | zero => intro m s h _; exact absurd h (Nat.not_lt_zero _)
  | succ n ih =>
    intro m s hn hm
    cases m with
    | zero => exact absurd hm (Nat.not_lt_zero _)
    | succ m =>
      rw [chooseLoop_succ, chooseLoop_succ]
      cases hr : s.nextReady with
      | none => rfl
      | some l =>
        dsimp only
        cases ha : (s.takeLine l).2 with
        | false => rfl
        | true =>
          have hlt := takeLine_again_queue s l hr ha
          rw [ih m (s.takeLine l).1 (by omega) (by omega)]

/-- The engine takes the first queued line on a READY module, and chooses again if that line is finished at
once (R15, R17). -/
theorem choose_of_nextReady (s : State) (l : Line) (list : s.engine.returnList = [])
    (ready : s.nextReady = some l) : s.choose = State.andChoose (s.takeLine l) := by
  have hq : s.engine.queue ≠ [] := by
    intro h
    simp [State.nextReady, h] at ready
  unfold State.choose State.andChoose
  rw [chooseLoop_succ]
  simp only [list, ready, List.isEmpty_nil, Bool.not_true, Bool.false_eq_true, if_false,
    List.isEmpty_iff, hq]
  cases ha : (s.takeLine l).2 with
  | false => rfl
  | true =>
    simp only [if_true]
    exact chooseLoop_fuel _ _ _ (takeLine_again_queue s l ready ha) (Nat.lt_succ_self _)

/-! ### The ends of operations -/

theorem cancelEndsFrom_endCancel (s : State) (w : CancelWork) :
    CancelEndsFrom (.next (s.endCancel w).settle) s w where
  copied h := by
    unfold State.endCancel
    simp only [h, if_true]
    rfl
  dropped h := by
    unfold State.endCancel
    simp only [h, Bool.false_eq_true, if_false]
    rfl

/-- A return sense that has ended resumes the engine (R117). -/
theorem resumesFrom_continueReturn (s : State) : ResumesFrom (.next s.continueReturn.settle) s where
  returns l rest h := by
    have hs : s.continueReturn = s.startSense .return l := by
      simp [State.continueReturn, State.startReturn, h]
    rw [hs]
    rfl
  choice h hr := by simp [State.continueReturn, h, hr]
  idle h hr := by
    have ht : timerOf s.settings.auditMs =
        if s.settings.auditMs = 0 then none else some s.settings.auditMs := by
      unfold timerOf
      by_cases h0 : s.settings.auditMs = 0
      · simp [h0]
      · simp [h0, Nat.pos_of_ne_zero h0]
    simp only [State.continueReturn, State.goIdle, State.startReturn, h, hr, ht]
    rfl

/-! ### Catch-ups (R29) -/

/-- Lines appended one after the other, no line twice: the queue and the unavailable lines (R13, R14). -/
theorem appendLines_eq (ls : List Line) : ∀ s : State, ls.Nodup →
    ∃ u : LineSet → LineSet,
      (∀ x l, (u x).get l = if l ∈ ls then !s.lineInService l else x.get l) ∧
      s.appendLines ls = s.setEngine
        { s.engine with
          queue := s.engine.queue ++ ls.filter fun l => s.lineInService l && !s.engine.queue.contains l
          refresh := s.engine.refresh.map fun r => { r with unavailable := u r.unavailable } } := by
  induction ls with
  | nil =>
    intro s _
    refine ⟨id, fun x l => by simp, ?_⟩
    simp [State.appendLines, State.setEngine]
  | cons k ls ih =>
    intro s hnd
    obtain ⟨hk, hls⟩ := List.nodup_cons.mp hnd
    obtain ⟨u, hu, he⟩ := ih (s.appendLine k) hls
    have hsvc : ∀ l, (s.appendLine k).lineInService l = s.lineInService l := by
      intro l
      unfold State.appendLine
      split <;> rfl
    have heng : (s.appendLine k).engine =
        { s.engine with
          queue := s.engine.queue ++ if s.lineInService k && !s.engine.queue.contains k then [k] else []
          refresh := s.engine.refresh.map fun r =>
            { r with unavailable := r.unavailable.set k (!s.lineInService k) } } := by
      unfold State.appendLine
      cases h : s.lineInService k with
      | true =>
        cases hc : s.engine.queue.contains k <;> simp
      | false => simp [State.updRefresh]
    have hset : ∀ x, (s.appendLine k).setEngine x = s.setEngine x := by
      intro x
      unfold State.appendLine
      split <;> rfl
    refine ⟨fun x => u (x.set k (!s.lineInService k)), ?_, ?_⟩
    · intro x l
      rw [hu, hsvc, Table.get_set]
      by_cases hl : l = k
      · subst hl
        simp [hk]
      · simp [hl, Ne.symm hl]
    · show (s.appendLine k).appendLines ls = _
      rw [he, hset, heng]
      simp only [hsvc, Option.map_map, List.append_assoc]
      congr 2
      · rw [List.filter_cons]
        have hf : (ls.filter fun l => s.lineInService l &&
            !(s.engine.queue ++ if s.lineInService k && !s.engine.queue.contains k then [k] else []).contains
              l) = ls.filter fun l => s.lineInService l && !s.engine.queue.contains l := by
          apply List.filter_congr
          intro l hl
          have hne : l ≠ k := fun h => hk (h ▸ hl)
          split <;> simp [hne]
        rw [hf]
        split <;> simp

/-- A catch-up does what CatchesUp says (R29). -/
theorem catchesUp_catchUp (s : State) (ls : List Line) (once : ls.Nodup) :
    CatchesUp s ls (s.catchUp ls) where
  joins r hr := by
    obtain ⟨u, hu, he⟩ := appendLines_eq ls s once
    refine ⟨u r.unavailable, hu r.unavailable, ?_⟩
    simp only [State.catchUp, hr, Option.isSome_some, if_true]
    rw [he, hr]
    rfl
  nothing hr hl := by
    have ha : ls.any s.lineInService = false := by
      rw [List.any_eq_false]
      intro l h
      simp [hl l h]
    simp [State.catchUp, hr, ha]
  opens hr hl := by
    have ha : ls.any s.lineInService = true := by
      rw [List.any_eq_true]
      exact hl
    simp only [State.catchUp, hr, ha, Option.isSome_none, Bool.false_eq_true, if_false, if_true]
    unfold State.openRefresh
    dsimp only
    obtain ⟨u, hu, he⟩ := appendLines_eq ls
      ((s.setEngine { s.engine with
        generation := s.engine.generation + 1
        refresh := some (openRecord (onlyRequester .station))
        auditInterval := none }).setReservoir s.reservoir.refreshOpens) once
    refine ⟨u (Table.fill false), ?_, ?_⟩
    · intro l
      rw [hu]
      show (if l ∈ ls then !s.lineInService l else _) = true ↔ _
      by_cases h : l ∈ ls <;> simp [h]
    · exact he.trans rfl

/-! ### Modules leaving service (R16, R107, R115) -/

theorem fresh_clearModuleFresh (s : State) (m : ModuleId) (l : Line) :
    (s.clearModuleFresh m).page.fresh.get l = (s.page.fresh.get l && moduleOf l != m) := by
  have fold : ∀ (ls : List Line) (t : State), (ls.foldl State.clearFresh t).page.fresh.get l =
      (t.page.fresh.get l && !ls.contains l) := by
    intro ls
    induction ls with
    | nil => intro t; simp
    | cons k ls ih =>
      intro t
      rw [List.foldl_cons, ih]
      show ((t.page.fresh.set k false).get l && _) = _
      rw [Table.get_set]
      by_cases h : l = k
      · subst h; simp
      · simp [h, Ne.symm h]
  unfold State.clearModuleFresh
  rw [fold]
  congr 1
  by_cases h : moduleOf l = m
  · simp [h, (mem_linesOf m l).mpr h]
  · have hn : l ∉ linesOf m := fun hl => h ((mem_linesOf m l).mp hl)
    simp [h, hn]

@[simp] theorem engine_clearModuleFresh (s : State) (m : ModuleId) :
    (s.clearModuleFresh m).engine = s.engine := by
  have fold : ∀ (ls : List Line) (t : State), (ls.foldl State.clearFresh t).engine = t.engine := by
    intro ls
    induction ls with
    | nil => exact fun _ => rfl
    | cons k ls ih => exact fun t => (ih (t.clearFresh k)).trans rfl
  exact fold _ s

@[simp] theorem engine_moduleChanged (s : State) (m : ModuleId) (x : ModuleState) :
    (s.moduleChanged m x).engine = s.engine := by
  unfold State.moduleChanged
  split
  · exact engine_notify _ _ _
  · rfl

@[simp] theorem page_moduleChanged (s : State) (m : ModuleId) (x : ModuleState) :
    (s.moduleChanged m x).page = s.page := by
  unfold State.moduleChanged State.notify
  repeat' split
  all_goals rfl

/-- MODULE_CHANGED leaves its port as R119 says. -/
theorem ports_moduleChanged (s : State) (m : ModuleId) (x : ModuleState) :
    (s.moduleChanged m x).ports = s.portsTold m x := by
  unfold State.moduleChanged State.portsTold
  split
  · rename_i h
    have hp : s.inService .station = true := by simp [State.inService, State.powered, h]
    simp only [State.notify, hp, if_true]
    rfl
  · rfl

/-- The lines of a module leave the engine, where the fresh flags have been cleared before (R16). -/
theorem linesLeave_dropModuleLines (s t : State) (m : ModuleId) (engine : t.engine = s.engine)
    (fresh : ∀ l, t.page.fresh.get l = (s.page.fresh.get l && moduleOf l != m)) :
    LinesLeave s m (t.dropModuleLines m) where
  engine := by
    unfold State.dropModuleLines
    rw [engine]
    rfl
  closed h := by simp [State.dropModuleLines, engine, h]
  unavailable r h := by
    refine ⟨Table.tab fun l => r.unavailable.get l || (moduleOf l == m && s.engine.queue.contains l), ?_, ?_⟩
    · simp [State.dropModuleLines, engine, h]
    · intro l
      simp
  fresh := fresh

theorem linesLeave_enterFaulted (s : State) (m : ModuleId) : LinesLeave s m (s.enterFaulted m) := by
  refine linesLeave_dropModuleLines s _ m ?_ ?_
  · simp only [engine_moduleChanged, engine_clearModuleFresh]
    rfl
  · intro l
    rw [page_moduleChanged, fresh_clearModuleFresh]
    rfl

theorem linesLeave_enterStarting (s : State) (m : ModuleId) (reading : Int) :
    LinesLeave s m (s.enterStarting m reading) := by
  refine linesLeave_dropModuleLines s _ m ?_ ?_
  · simp only [engine_moduleChanged, engine_clearModuleFresh]
    rfl
  · intro l
    rw [page_moduleChanged, fresh_clearModuleFresh]
    rfl

/-! ### Tests of the state -/

theorem guarded_iff (s : State) (z : ZoneId) : s.guarded z = true ↔ s.settings.guard = true ∧
    ((s.zones.get z).state = .arming ∨ (s.zones.get z).state = .touched ∨
      (s.zones.get z).state = .releasing) := by
  unfold State.guarded
  cases (s.zones.get z).state <;> simp

theorem moduleBusy_iff (s : State) (m : ModuleId) : s.moduleBusy m = true ↔
    ∃ op, s.modules.operation = some op ∧ moduleOf (operationLine op) = m := by
  unfold State.moduleBusy
  rcases s.modules.operation with _ | op <;> simp

theorem workInFlight_iff (s : State) (l : Line) : s.workInFlight l = true ↔ s.quiet = false ∧
    ((∃ c, s.engine.current = some c ∧ c.line = l) ∨ ∃ w, s.engine.cancelled = some w ∧ w.line = l) := by
  unfold State.workInFlight
  rcases s.engine.current with _ | c <;> rcases s.engine.cancelled with _ | w <;> simp

/-- The clamp of stored settings leaves values in range, and leaves those that are so as they are (R151). -/
theorem inRange_clampSettings (x : Settings) : SettingsInRange (clampSettings x) := by
  constructor <;> simp [clampSettings, clampTo, clampReady]

theorem clampSettings_of_inRange (x : Settings) (h : SettingsInRange x) : clampSettings x = x := by
  obtain ⟨⟨_, _⟩, ⟨_, _⟩, _, _, _, _, ⟨_, _⟩, ⟨_, _⟩, _, _⟩ := h
  cases x
  simp [clampSettings, clampTo, clampReady] at *
  omega

/-- On a port with nothing in sending and nothing waiting a notice begins to be sent (R158). -/
theorem pushNotice_free (p : Port) (n : Notice) (free : p.sending = none) (empty : p.queue = []) :
    p.pushNotice n = { p with sending := some (messageFrame (.notice n)) } := by
  cases p
  simp_all [Port.pushNotice, Port.waiting, Config.noticeCapacity, Port.startSend]

/-! ### Packing points -/

/-- The test for a candidate says whether the present phase may drive a pin. -/
theorem candidate_iff (s : State) (c : Current) (p : LinePin) : s.candidate c p = true ↔ s.mayDrive c p := by
  unfold State.candidate State.mayDrive State.undone State.mismatched
  cases c.round.phase <;> simp [phaseTarget, and_assoc]

theorem hasCandidate_iff (s : State) (c : Current) : s.hasCandidate c = true ↔ ∃ p, s.mayDrive c p := by
  simp [State.hasCandidate, allPins, candidate_iff]

/-- With a candidate the stroke fires or the engine waits for charge. -/
theorem packsWith_packOrWait (s : State) (c : Current) : PacksWith (.next (s.packOrWait c).settle) s c where
  fires h := by simp [State.packOrWait, h]
  waits h := by simp [State.packOrWait, Nat.not_le.mpr h]

/-- The packing point of a current line which has a candidate, on a module that is not HOT. -/
theorem packingPoint_of_mayDrive (s : State) (c : Current) (ready : s.lineModule c.line ≠ .hot)
    (pin : ∃ p, s.mayDrive c p) : s.packingPoint c = (s.packOrWait c, false) := by
  simp [State.packingPoint, ready, (hasCandidate_iff s c).mpr pin]

/-! ### The sweep -/

/-- While a sense pass of the sweep is in flight nothing new is begun. -/
theorem continueSweep_inFlight (s : State) (busy : s.quiet = false) : s.continueSweep = s := by
  simp [State.continueSweep, busy]

/-- With nothing in flight the lowest waiting line is sensed. -/
theorem continueSweep_senses (s : State) (free : s.quiet = true) (l : Line) (rest : List Line)
    (first : s.engine.sweepWaiting.members = l :: rest) :
    s.continueSweep =
      (s.setEngine { s.engine with sweepWaiting := s.engine.sweepWaiting.set l false }).startSense .sweep l := by
  simp [State.continueSweep, free, first]

/-- With no line waiting the sweep completes or waits for the modules that are STARTING. -/
theorem continueSweep_empty (s : State) (free : s.quiet = true) (none : s.engine.sweepWaiting.members = []) :
    s.continueSweep = if s.sweepDone then s.completeSweep else s := by
  simp [State.continueSweep, free, none]

end Sys2Proof.Machine
end

