-- ==== Sys2Proof/Tests/Slice0.lean ====
section
/-!
SUPPORT. Small tests of the model, and for every statement with hypotheses a state and operands that meet
them together, clause by clause where a statement has several.
-/

namespace Sys2Proof.Tests

open Sys2Proof Sys2Proof.Machine

set_option Elab.async false

/-! ### States -/

/-- Every module READY at 25 °C, no refresh open, the sweep over, a patron device plugged in. -/
def idleBoard : State :=
  ((State.board .running .blank true (Table.fill ⟨.clear, false⟩) []).setModules
    ⟨Table.fill ⟨.ready, some 25, none⟩, Table.fill true, none⟩).setEngine
    { initialEngine with state := .idle, auditInterval := some 2000 }

/-- A complete frame of the kind, with tag 7, waits on the link. -/
def State.offer (s : State) (l : Link) (k : RequestKind) (payload : List Byte) : State :=
  s.setPort l { s.port l with frames := [makeFrame (kindCode k) 7 payload] }

abbrev frameOf (k : RequestKind) (payload : List Byte) : Frame := makeFrame (kindCode k) 7 payload

/-- The frame offered is taken and passes the screening. -/
abbrev Offered (s : State) (l : Link) (k : RequestKind) (payload : List Byte) : Prop :=
  Takes (State.offer s l k payload) l k (frameOf k payload)

/-- Two panes: lines 0 to 9 STATION's, lines 10 to 23 PATRON's. -/
def twoPanes : State := idleBoard.setPanes [⟨0, 0, 9, .station⟩, ⟨1, 10, 23, .patron⟩]

/-- Eight panes. -/
def eightPanes : State := idleBoard.setPanes
  [⟨0, 0, 2, .station⟩, ⟨1, 3, 5, .station⟩, ⟨2, 6, 8, .station⟩, ⟨3, 9, 11, .station⟩,
   ⟨4, 12, 14, .station⟩, ⟨5, 15, 17, .station⟩, ⟨6, 18, 20, .station⟩, ⟨7, 21, 23, .localWriter⟩]

/-- A line's content with cell 0 all-raised. -/
def oneCell : Content := (Table.fill 0).set 0 0xFF

/-- Line 3 is changed in staging. -/
def edited (s : State) : State := s.putStaging 3 oneCell

/-- A refresh of STATION is open, line 3 is current and waits for charge. -/
def waitingBoard : State :=
  ((idleBoard.putTarget 3 oneCell).setReservoir ⟨479, .charging, none⟩).setEngine
    { initialEngine with
      state := .charging, generation := 1, refresh := some (openRecord (onlyRequester .station))
      queue := [3], current := some ⟨3, startRound⟩ }

/-- As before, with cell 0 of line 3 to be lowered. -/
def loweringBoard : State := (waitingBoard.putTarget 3 blankContent).putSensed 3 oneCell

/-- The stroke of line 3 is in flight. -/
def testStroke : Stroke := ⟨3, 1, .raise, [⟨0, 900, 3⟩], 3, 900⟩

def strikingBoard : State :=
  (waitingBoard.setOperation (some (.stroke testStroke))).setEngineState .striking

/-- A sense pass of line 3 is in flight. -/
def sensingBoard (k : SenseKind) : State :=
  (waitingBoard.setOperation (some (.sense k 3))).setEngineState .sensing

/-- A refresh is DEFERRED on zone 12, its deadline running. -/
def deferredBoard : State := idleBoard.setEngine
  { initialEngine with
    state := .deferred, generation := 1
    refresh := some { openRecord (onlyRequester .station) with deadline := some 3000 }
    stale := (Table.fill false).set 12 true }

/-- A module in the state given. -/
def withModule (m : ModuleId) (x : ModuleState) (s : State) : State := s.putModule m ⟨x, some 25, none⟩

/-- Lines 6 and 3 are queued, and the engine is HELD, for their modules 2 and 1 are HOT. -/
def heldBoard : State := (withModule 2 .hot (withModule 1 .hot idleBoard)).setEngine
  { initialEngine with
    state := .held, generation := 1, refresh := some (openRecord (onlyRequester .station))
    queue := [6, 3] }

/-- Zone 12 in the state given. -/
def touching (x : Zone) (s : State) : State := s.putZone 12 x

/-- Line 3 is a pane of its own. -/
def threePanes : State := idleBoard.setPanes
  [⟨0, 0, 2, .station⟩, ⟨1, 3, 3, .station⟩, ⟨2, 4, 23, .station⟩]

/-! ### Ill-formed commands are refused, well-formed ones are not -/

theorem test_load_reading_above_range :
    Instr.wellFormed (.recordLoadComplete (Table.fill true) ((Table.fill 25).set 7 126)) = false := by
  decide +kernel
theorem test_load_reading_below_range :
    Instr.wellFormed (.recordLoadComplete (Table.fill true) ((Table.fill 25).set 0 (-41))) = false := by
  decide +kernel
theorem test_module_reset_reading_out_of_range :
    Instr.wellFormed (.moduleReset .station 126) = false ∧
    Instr.wellFormed (.moduleReset .patron (-41)) = false := by decide +kernel
theorem test_self_test_reading_out_of_range :
    Instr.wellFormed (.selfTestComplete 0 true 126) = false ∧
    Instr.wellFormed (.selfTestComplete 7 false (-41)) = false := by decide +kernel
theorem test_temperature_reading_out_of_range :
    Instr.wellFormed (.temperatureReading 0 126) = false ∧
    Instr.wellFormed (.temperatureReading 7 (-41)) = false := by decide +kernel
theorem test_well_formed_at_the_bounds :
    Instr.wellFormed (.recordLoadComplete (Table.fill true) (Table.fill 125)) = true ∧
    Instr.wellFormed (.moduleReset .station (-40)) = true ∧
    Instr.wellFormed (.selfTestComplete 3 true (-40)) = true ∧
    Instr.wellFormed (.temperatureReading 3 125) = true ∧ Instr.wellFormed .powerOn = true := by
  decide +kernel
/-- The opcode table gives no row bits, so no word spells a command. -/
theorem test_no_word_spells_a_command (n w : Nat) : decodeTableWord n w = none := rfl

/-! ### Values the manual works out -/

/-- R157's example. -/
theorem test_crc_of_nine_digits :
    crcOf [0x31, 0x32, 0x33, 0x34, 0x35, 0x36, 0x37, 0x38, 0x39] = 0x29B1#16 := by decide +kernel

/-- R1: the pin numbers of a cell and the places of its dots in the byte. -/
theorem test_dots_of_a_cell :
    (List.finRange 8).map (fun d => ((pinAt 5 d).val, (dotOf (pinAt 5 d)).val)) =
      [(10, 0), (90, 1), (170, 2), (11, 3), (91, 4), (171, 5), (250, 6), (251, 7)] := by decide +kernel

/-- R1, R49: the corners of the numberings. -/
theorem test_last_numbers :
    zoneOf 23 39 = 95 ∧ bankOf 23 39 = 47 ∧ cellIndex 23 39 = 959 ∧ moduleOf 23 = 7 := by decide +kernel

/-- Chapter 04's worked cases 1 and 2: width, draw, clamped. -/
theorem test_worked_widths :
    computeDrive ⟨900, .long, 12, 35, 0, 480, -3, 8⟩ = ⟨1011, 3, false⟩ ∧
    computeDrive ⟨700, .short, 12, -20, 2, 100, 31, 8⟩ = ⟨3000, 8, true⟩ := by decide +kernel

/-- Chapter 04's worked case 3, at Q = 480 and at Q = 512. -/
theorem test_reference_widths :
    [WidthClass.short, .normal, .long].map (fun c => (computeDrive ⟨900, c, 12, 25, 0, 480, 0, 8⟩).width) =
      [782, 889, 996] ∧
    [WidthClass.short, .normal, .long].map (fun c => (computeDrive ⟨900, c, 12, 25, 0, 512, 0, 8⟩).width) =
      [731, 831, 930] := by decide +kernel

/-! ### State.reset and small steps -/

/-- Right after reset a record load is in progress, and the queue of commands is empty (R151). -/
theorem test_reset_is_loading :
    State.reset.stage = .loadingPowerOn ∧ State.reset.pending = [] ∧ State.reset.reservoir = ⟨0, .off, none⟩ := by
  decide +kernel

/-- A SHOW of one changed line whose module is FAULTED: nothing is queued, the line is an unavailable line of
generation 1, which closes PARTIAL at once (R9, R10, R25). -/
theorem test_show_of_a_line_out_of_service :
    (match execShowPanes .station
        (State.offer (withModule 1 .faulted (edited threePanes)) .station .show_ [1]) with
      | .next t => some (t.engine.state, t.engine.queue, t.ports.station.queue)
      | _ => none) =
    some (.idle, [], [.notice (.refreshClosed ⟨1, .partialWork, 0, 0, 0, 1, 0, 0⟩)]) := by decide +kernel

/-- A SHOW of one changed line opens generation 1, queues the line for its pre-sense and starts the
charger (R10, R17, R98). -/
theorem test_show_opens_generation_one :
    (match execShowPanes .station (State.offer (edited threePanes) .station .show_ [1]) with
      | .next t => decide (t.engine.generation = 1 ∧ t.engine.queue = [3] ∧
          t.modules.operation = some (.sense .pre 3) ∧ t.reservoir.charger = .charging ∧
          t.ports.station.sending = some (makeFrame 0x87 7 [0, 1, 1, 0]))
      | _ => false) = true := by decide +kernel

/-- Below Q_READY a charger step adds one unit and nothing else happens (R85, R100). -/
theorem test_charge_below_ready_only_fills :
    (match execChargerStep (waitingBoard.setReservoir ⟨478, .charging, none⟩) with
      | .next t => decide (t.reservoir = ⟨479, .charging, none⟩ ∧ t.engine = waitingBoard.engine)
      | _ => false) = true := by decide +kernel

/-! ### Invariants of the states above -/

theorem panesOk_initial : PanesOk initialPanes := ⟨by decide, ⟨rfl, by decide, rfl⟩, by decide⟩
theorem panesOk_two : PanesOk twoPanes.panes := ⟨by decide, ⟨rfl, by decide, rfl, by decide, rfl⟩, by decide⟩
theorem panesOk_eight : PanesOk eightPanes.panes :=
  ⟨by decide, by repeat (first | rfl | refine ⟨rfl, by decide, ?_⟩), by decide⟩

theorem idle_engineOk : EngineOk idleBoard where
  closed _ := ⟨rfl, rfl, rfl⟩
  once := .nil
  service _ h := nomatch h
  current _ h := nomatch h
  cancelled _ h := nomatch h
  owned := trivial
  strokeModule _ h := nomatch h
  operating _ h := nomatch h
  started h := nomatch h
  striking _ := by decide
  sensing _ := by decide
  charging := by decide
  deferred h := nomatch h
  held h := nomatch h
  idle _ := rfl
  audit _ := rfl
  returns _ := rfl
  returnService _ h := nomatch h
  waitingService h := nomatch h
  before h := absurd rfl h

theorem striking_engineOk : EngineOk strikingBoard where
  closed h := nomatch h
  once := by decide
  service := by decide +kernel
  current c h := by cases h; decide
  cancelled _ h := nomatch h
  owned := Or.inl ⟨_, rfl, rfl⟩
  strokeModule _ h := by cases h; rfl
  operating op h := by cases h; decide
  started _ := rfl
  striking _ := by decide
  sensing _ := by decide
  charging := by decide
  deferred h := nomatch h
  held h := nomatch h
  idle h := nomatch h
  audit h := nomatch h
  returns _ := rfl
  returnService _ h := nomatch h
  waitingService h := nomatch h
  before h := absurd rfl h

theorem waiting_engineOk : EngineOk waitingBoard where
  closed h := nomatch h
  once := by decide
  service := by decide +kernel
  current c h := by cases h; decide
  cancelled _ h := nomatch h
  owned := trivial
  strokeModule _ h := nomatch h
  operating _ h := nomatch h
  started _ := rfl
  striking _ := by decide
  sensing _ := by decide
  charging := by decide
  deferred h := nomatch h
  held h := nomatch h
  idle h := nomatch h
  audit h := nomatch h
  returns _ := rfl
  returnService _ h := nomatch h
  waitingService h := nomatch h
  before h := absurd rfl h

theorem held_engineOk : EngineOk heldBoard where
  closed h := nomatch h
  once := by decide
  service := by decide +kernel
  current _ h := nomatch h
  cancelled _ h := nomatch h
  owned := trivial
  strokeModule _ h := nomatch h
  operating _ h := nomatch h
  started _ := rfl
  striking _ := by decide
  sensing _ := by decide
  charging := by decide
  deferred h := nomatch h
  held _ := ⟨rfl, by decide, by decide +kernel⟩
  idle h := nomatch h
  audit h := nomatch h
  returns _ := rfl
  returnService _ h := nomatch h
  waitingService h := nomatch h
  before h := absurd rfl h

theorem deferred_engineOk : EngineOk deferredBoard where
  closed h := nomatch h
  once := .nil
  service _ h := nomatch h
  current _ h := nomatch h
  cancelled _ h := nomatch h
  owned := trivial
  strokeModule _ h := nomatch h
  operating _ h := nomatch h
  started _ := rfl
  striking _ := by decide
  sensing _ := by decide
  charging := by decide
  deferred _ := ⟨rfl, rfl⟩
  held h := nomatch h
  idle h := nomatch h
  audit h := nomatch h
  returns _ := rfl
  returnService _ h := nomatch h
  waitingService h := nomatch h
  before h := absurd rfl h

/-- With no refresh open and nothing in flight, the module records do not matter to the engine. -/
theorem idle_engineOk_module (m : ModuleId) (x : ModuleState) : EngineOk (withModule m x idleBoard) := by
  obtain ⟨a, b, _, d, e, f, sm, _, i, j, k, n, o, _, w, q, r, _, _, v⟩ := idle_engineOk
  exact ⟨a, b, fun _ h => (nomatch h), d, e, f, sm, fun _ h => (nomatch h), i, j, k, n, o,
    fun h => (nomatch h), w, q, r, fun _ h => (nomatch h), fun h => (nomatch h), v⟩

theorem deferred_engineOk_module : EngineOk (withModule 1 .faulted deferredBoard) := by
  obtain ⟨a, b, _, d, e, f, sm, _, i, j, k, n, o, _, w, q, r, _, _, v⟩ := deferred_engineOk
  exact ⟨a, b, fun _ h => (nomatch h), d, e, f, sm, fun _ h => (nomatch h), i, j, k, n, o,
    fun h => (nomatch h), w, q, r, fun _ h => (nomatch h), fun h => (nomatch h), v⟩

theorem engineOk_panes (s : State) (panes : List Pane) (h : EngineOk s) : EngineOk (s.setPanes panes) := by
  obtain ⟨a, b, c, d, e, f, sm, g, i, j, m, n, o, p, w, q, r, t, u, v⟩ := h
  exact ⟨a, b, c, d, e, f, sm, g, i, j, m, n, o, p, w, q, r, t, u, v⟩

theorem engineOk_edited (s : State) (h : EngineOk s) : EngineOk (edited s) := by
  obtain ⟨a, b, c, d, e, f, sm, g, i, j, m, n, o, p, w, q, r, t, u, v⟩ := h
  exact ⟨a, b, c, d, e, f, sm, g, i, j, m, n, o, p, w, q, r, t, u, v⟩

theorem engineOk_offer (s : State) (l : Link) (k : RequestKind) (payload : List Byte) (h : EngineOk s) :
    EngineOk (State.offer s l k payload) := by
  obtain ⟨a, b, c, d, e, f, sm, g, i, j, m, n, o, p, w, q, r, t, u, v⟩ := h
  cases l <;> exact ⟨a, b, c, d, e, f, sm, g, i, j, m, n, o, p, w, q, r, t, u, v⟩

theorem engineOk_stale (s : State) (stale : ZoneSet) (run : s.stage = .running) (h : EngineOk s) :
    EngineOk (s.setEngine { s.engine with stale := stale }) := by
  obtain ⟨a, b, c, d, e, f, sm, g, i, j, m, n, o, p, w, q, r, t, u, _⟩ := h
  exact ⟨a, b, c, d, e, f, sm, g, i, j, m, n, o, p, w, q, r, t, u, fun x => absurd run x⟩

theorem engineOk_touching (s : State) (x : Zone) (h : EngineOk s) : EngineOk (touching x s) := by
  obtain ⟨a, b, c, d, e, f, sm, g, i, j, m, n, o, p, w, q, r, t, u, v⟩ := h
  exact ⟨a, b, c, d, e, f, sm, g, i, j, m, n, o, p, w, q, r, t, u, v⟩

theorem startOk_running (s : State) (h : s.stage = .running) (ready : ∀ m, s.moduleState m ≠ .absent)
    (zones : ∀ z, zoneAgrees (s.zones.get z)) : StartOk s where
  load hl := by simp [State.loading, h] at hl
  zones _ := zones
  absent _ z ha := absurd ha (ready _)
  unread hz := by simp [State.zonesReached, h] at hz

/-! ### Commands and requests: states and operands that meet the hypotheses -/

theorem test_witness_StepExecutesTheFrontCommand :
    ((idleBoard.setPending [.powerOn]).pending = [.powerOn]) ∧ State.reset.pending = [] := ⟨rfl, rfl⟩

theorem test_witness_TakenRequestLeavesBufferAndIsAnswered : ∀ l : Link,
    requestOf (.getSetting l) = some (l, .get) ∧
    (State.offer idleBoard l .get [1]).takeable l = some (frameOf .get [1]) ∧
    (frameOf .get [1]).kind = kindCode .get := by
  intro l; cases l <;> decide +kernel

/-- Kinds 0x00, 0x01, 0x14, 0x15 and 0xFF; STATION's SET on the patron link; a GET before the sweep has
completed; a GET of two bytes; a FAULT_CLEAR of three. -/
theorem test_witness_ScreeningRefusesInItsOrder :
    (∀ k ∈ ([0x00, 0x01, 0x14, 0x15, 0xFF] : List Byte),
      (idleBoard.setPort .station { freshPort with frames := [makeFrame k 7 []] }).takeable .station =
        some (makeFrame k 7 [])) ∧
    (requestOf (.setSetting .patron) = some (.patron, .set) ∧
      (State.offer State.reset .patron .set []).takeable .patron = none ∧
      (State.offer idleBoard .patron .set []).takeable .patron = some (frameOf .set [])) ∧
    ((State.offer State.reset .station .get [1]).takeable .station = some (frameOf .get [1]) ∧
      State.reset.stage ≠ .running ∧ State.reset.stage ≠ .sweeping) ∧
    ((State.offer (idleBoard.setStage .sweeping) .station .identify []).takeable .station =
      some (frameOf .identify [])) ∧
    ((State.offer idleBoard .station .get [1, 2]).takeable .station = some (frameOf .get [1, 2]) ∧
      (frameOf .get [1, 2]).payload.length ≠ 1) ∧
    ((State.offer idleBoard .station .faultClear [3, 0, 1]).takeable .station =
      some (frameOf .faultClear [3, 0, 1])) := by decide +kernel

theorem test_witness_AnswerTouchesOnlyItsPort :
    (idleBoard.port .station).sending = none ∧ (idleBoard.port .station).queue = [] := ⟨rfl, rfl⟩

theorem test_witness_ReadRepliesAndMessageLayouts :
    (∀ l ∈ [Link.station, .patron], Offered idleBoard l .identify [] ∧ Offered idleBoard l .paneList [] ∧
      Offered idleBoard l .trimList []) ∧
    Offered (idleBoard.setStage .sweeping) .station .identify [] := by decide +kernel

theorem test_witness_StatusReportsAndClearsOwnFlags :
    Offered idleBoard .station .status [] ∧ Offered idleBoard .patron .status [] ∧
    Offered (idleBoard.setStage .sweeping) .patron .status [] := by decide +kernel

theorem test_witness_GetShowsTheWorkingSetting :
    ∀ id ∈ ([0, 1, 2, 3, 4, 5, 6, 7, 8, 9, 10, 11, 12, 13, 14, 15, 16, 17, 255] : List Byte),
      Offered idleBoard .station .get [id] ∧ Offered idleBoard .patron .get [id] := by decide +kernel

theorem test_witness_ReadImageReturnsTheLine :
    ∀ code ∈ ([0, 1, 2, 3] : List Byte), ∀ line ∈ ([0, 23, 24] : List Byte),
      Offered idleBoard .station .readImage [code, line] := by decide +kernel

theorem test_witness_FaultListShowsTheMapFromAnIndex :
    ∀ start ∈ ([0, 63, 64, 255] : List Byte), Offered idleBoard .patron .faultList [start] := by
  decide +kernel

/-- First cells 0, 959 and 960, and counts 0, 48 and 255. -/
theorem test_witness_WearReadShowsClampedCounts :
    ∀ count ∈ ([0, 48, 255] : List Byte), Offered idleBoard .station .wearRead [0, 0, count] ∧
      Offered idleBoard .station .wearRead [3, 191, count] ∧
      Offered idleBoard .station .wearRead [3, 192, count] := by decide +kernel

/-! ### SET -/

theorem test_witness_SetClampsStoresAndAnswers :
    (∀ id ∈ ([0, 1, 2, 3, 4, 5, 6, 7, 8, 9, 10, 11, 12, 13, 14, 15, 16, 17, 255] : List Byte),
      Offered idleBoard .station .set [id, 0, 0, 15, 2]) ∧
    Offered idleBoard .station .set [15, 0, 0, 16, 0] ∧ Offered idleBoard .station .set [16, 0, 0, 0, 3] ∧
    idleBoard.writer.prompt = false := by decide +kernel

/-- A charger that is not OFF with no refresh open; an IDLE engine; a refresh with stale zones; DEFERRED on
one of them; and the states that are none of these. -/
theorem test_witness_SettingsThatActAtTheirSet :
    (∀ v ∈ ([0, 1] : List Byte),
      Offered (idleBoard.setReservoir ⟨512, .full, none⟩) .station .set [11, 0, 0, 0, v] ∧
      Offered waitingBoard .station .set [11, 0, 0, 0, v] ∧
      Offered idleBoard .station .set [12, 0, 0, 0, v] ∧
      Offered waitingBoard .station .set [12, 0, 0, 0, v] ∧
      Offered waitingBoard .station .set [8, 0, 0, 0, v] ∧
      Offered deferredBoard .station .set [8, 0, 0, 0, v]) ∧
    idleBoard.engine.state = .idle ∧ waitingBoard.engine.state ≠ .deferred ∧
    deferredBoard.engine.state = .deferred ∧ 0 < deferredBoard.engine.stale.count ∧
    deferredBoard.engine.refresh.isSome = true ∧ deferredBoard.ownedLines .localWriter = [] := by
  decide +kernel

/-- Q is 479 at a packing point that waits: a SET of Q_READY to 479 ends the wait, one to 480 does not, nor does
one of Q_FLOOR to 448, which leaves Q_READY at 480; at Q = 480 a SET of Q_FLOOR to 448 finds Q at Q_READY. -/
theorem test_witness_SettingsThatActAtTheirSet_waiting :
    (∀ x ∈ ([[10, 0, 0, 1, 223], [10, 0, 0, 1, 224], [9, 0, 0, 1, 192]] : List (List Byte)),
      Offered loweringBoard .station .set x ∧ Offered idleBoard .station .set x) ∧
    loweringBoard.engine.state = .charging ∧ loweringBoard.engine.current = some ⟨3, startRound⟩ ∧
    loweringBoard.reservoir.q = 479 ∧ max 480 (448 + 16) = loweringBoard.settings.qReady ∧
    loweringBoard.lineModule 3 ≠ .hot ∧ loweringBoard.hasCandidate ⟨3, startRound⟩ = true ∧
    waitingBoard.hasCandidate ⟨3, startRound⟩ = false ∧ idleBoard.engine.state ≠ .charging ∧
    Offered (loweringBoard.setReservoir ⟨480, .charging, none⟩) .station .set [9, 0, 0, 1, 192] := by
  decide +kernel

/-- R85, R102: at Q = 479 the wait ends by a SET of Q_READY to 479, and goes on with one to 480. -/
theorem test_set_of_q_ready_ends_the_wait :
    ([223, 224] : List Byte).map (fun v =>
      match execSetSetting .station (State.offer loweringBoard .station .set [10, 0, 0, 1, v]) with
      | .next t => some t.engine.state
      | _ => none) = [some .striking, some .charging] := by decide +kernel

/-! ### Writes to staging -/

/-- A line outside the page; too few bytes; STATION's line for PATRON and for STATION; the last cell; a
count of 0. -/
theorem test_witness_WriteCellsWritesOwnedStaging :
    Offered idleBoard .station .writeCells [24, 0, 1, 9] ∧
    Offered idleBoard .station .writeCells [23, 40, 1, 9] ∧
    Offered idleBoard .station .writeCells [23, 39, 2, 9] ∧
    Offered idleBoard .station .writeCells [23, 39, 0, 9] ∧
    Offered idleBoard .station .writeCells [0, 39, 2, 9, 9] ∧
    Offered idleBoard .patron .writeCells [0, 0, 1, 9] ∧
    idleBoard.owns .station 0 = true ∧ idleBoard.owns .station 23 = true ∧
    idleBoard.owns .patron 0 = false := by decide +kernel

theorem test_witness_FillLinesFillsOwnedLines :
    Offered idleBoard .station .fillLines [0, 23, 7] ∧ Offered twoPanes .patron .fillLines [9, 10, 7] ∧
    Offered idleBoard .station .fillLines [0, 24, 7] ∧ Offered idleBoard .station .fillLines [2, 1, 7] := by
  decide +kernel

/-! ### SHOW and CANCEL -/

/-- No pane named; a free id; a pane of the other; a pane of one's own. -/
theorem test_witness_ShowAndCancelScopeIsChecked :
    (∀ k ∈ [RequestKind.show_, .cancel], Offered twoPanes .station k [] ∧ Offered twoPanes .station k [7] ∧
      Offered twoPanes .station k [1] ∧ Offered twoPanes .patron k [1]) ∧
    (twoPanes.panes.map (·.id)).Nodup ∧ (∀ p ∈ twoPanes.panes, p.id.val ≠ 7) := by decide +kernel

theorem test_witness_ShowCopiesStagingIntoTarget :
    PanesOk twoPanes.panes ∧ Offered twoPanes .station .show_ [] ∧
    ∃ lines, twoPanes.scope .station [] = .ok lines ∧ lines.length = 10 :=
  ⟨panesOk_two, by decide +kernel, _, rfl, by decide +kernel⟩

/-- A CANCEL took line 3 while its stroke is in flight; line 3 is a pane. -/
def cancelledStriking : State := (strikingBoard.setPanes threePanes.panes).setEngine
  { strikingBoard.engine with
    queue := [], current := none, cancelled := some ⟨3, .station, true, true⟩ }

/-- The current line with a stroke in flight, and waiting for charge, and a line that a CANCEL took, in the
scope and outside it. -/
theorem test_witness_ShowCopiesStagingIntoTarget_current :
    (∀ s ∈ [strikingBoard.setPanes threePanes.panes, waitingBoard.setPanes threePanes.panes, cancelledStriking],
      Offered s .station .show_ [1] ∧ Offered s .station .show_ [0] ∧ s.writer.prompt = false ∧
      (s.quiet = false ∨ s.engine.current.isSome = true) ∧ pinState (s.staging 3) 0 ≠ pinState (s.target 3) 0) ∧
    PanesOk threePanes.panes ∧ threePanes.scope .station [1] = .ok [3] ∧
    (strikingBoard.engine.current = some ⟨3, startRound⟩ ∧ cancelledStriking.engine.current = none) ∧
    cancelledStriking.engine.cancelled = some ⟨3, .station, true, true⟩ :=
  ⟨by decide +kernel, ⟨by decide, ⟨rfl, by decide, rfl, by decide, rfl, by decide, rfl⟩, by decide⟩, rfl,
    ⟨rfl, rfl⟩, rfl⟩

/-- R28: a SHOW of the line drops the copy that the CANCEL left pending. -/
theorem test_show_drops_the_pending_copy :
    (match execShowPanes .station (State.offer cancelledStriking .station .show_ [1]) with
      | .next t => decide (t.engine.cancelled = some ⟨3, .station, false, true⟩ ∧ t.target 3 = blankContent)
      | _ => false) = true := by decide +kernel

/-- An audit sense of line 0 is in flight. -/
def auditedBoard : State := (edited threePanes).startSense .audit 0

/-- A pane with no dirty line; a pane with one, and no refresh open; the same with an operation in flight. -/
theorem test_witness_ShowOpensARefreshWhenDirty :
    (Offered threePanes .station .show_ [1] ∧ threePanes.scope .station [1] = .ok [3] ∧
      threePanes.dirtyLine 3 = false) ∧
    (Offered (edited threePanes) .station .show_ [1] ∧ (edited threePanes).scope .station [1] = .ok [3] ∧
      (edited threePanes).target 3 ≠ (edited threePanes).staging 3) ∧
    (Offered auditedBoard .station .show_ [1] ∧ auditedBoard.scope .station [1] = .ok [3] ∧
      auditedBoard.target 3 ≠ auditedBoard.staging 3 ∧ auditedBoard.engine.refresh = none ∧
      auditedBoard.quiet = false) ∧
    threePanes.ownedLines .localWriter = [] ∧ (edited threePanes).engine.refresh = none ∧
    (edited threePanes).engine.state = .idle ∧ (edited threePanes).quiet = true ∧
    (edited threePanes).engine.current = none := by
  refine ⟨⟨by decide +kernel, rfl, by decide +kernel⟩, ⟨by decide +kernel, rfl, by decide +kernel⟩,
    ⟨by decide +kernel, rfl, by decide +kernel, rfl, rfl⟩, by decide +kernel, rfl, rfl, rfl, rfl⟩

theorem test_witness_DirtyShowMergesIntoTheRefresh :
    Offered (strikingBoard.setPanes threePanes.panes) .station .show_ [1] ∧
    (strikingBoard.setPanes threePanes.panes).scope .station [1] = .ok [3] ∧
    strikingBoard.engine.refresh = some (openRecord (onlyRequester .station)) ∧
    strikingBoard.quiet = false ∧ strikingBoard.writer.prompt = false ∧
    strikingBoard.dirtyLine 3 = true := by
  refine ⟨by decide +kernel, rfl, rfl, rfl, rfl, by decide +kernel⟩

/-- The engine CHARGING; DEFERRED; HELD, with a dirty line whose module is HOT, and with one whose module is
READY. -/
theorem test_witness_DirtyShowMergesIntoTheRefresh_by_state :
    let deferred := (edited deferredBoard).setPanes threePanes.panes
    let held := (edited heldBoard).setPanes threePanes.panes
    let free := (heldBoard.putStaging 0 oneCell).setPanes threePanes.panes
    (Offered (waitingBoard.setPanes threePanes.panes) .station .show_ [1] ∧
      waitingBoard.engine.current.isSome = true ∧ waitingBoard.dirtyLine 3 = true) ∧
    (Offered deferred .station .show_ [1] ∧ deferred.engine.state = .deferred ∧ deferred.quiet = true ∧
      deferred.engine.current = none ∧ deferred.engine.refresh.isSome = true ∧
      deferred.dirtyLine 3 = true ∧ deferred.lineInService 3 = true) ∧
    (Offered held .station .show_ [1] ∧ EngineOk (State.offer held .station .show_ [1]) ∧
      held.engine.state = .held ∧ held.writer.prompt = false ∧ held.dirtyLine 3 = true ∧
      held.lineModule 3 ≠ .ready) ∧
    (Offered free .station .show_ [0] ∧ free.engine.state = .held ∧ free.quiet = true ∧
      free.engine.current = none ∧ free.dirtyLine 0 = true ∧ free.lineModule 0 = .ready) :=
  ⟨by decide +kernel, by decide +kernel,
    ⟨by decide +kernel, engineOk_offer _ _ _ _ (engineOk_panes _ _ (engineOk_edited _ held_engineOk)),
      by decide +kernel⟩, by decide +kernel⟩

/-- R11: an engine in HELD takes a merged line whose module is READY. -/
theorem test_held_engine_takes_a_merged_line :
    (match execShowPanes .station (State.offer ((heldBoard.putStaging 0 oneCell).setPanes threePanes.panes)
        .station .show_ [0]) with
      | .next t => decide (t.engine.queue = [6, 3, 0] ∧ t.engine.state = .sensing ∧
          t.modules.operation = some (.sense .pre 0) ∧ t.engine.generation = 2)
      | _ => false) = true := by decide +kernel

/-- A line that waits for charge, and one whose stroke is in flight. -/
theorem test_witness_CancelTakesBackItsLines :
    PanesOk idleBoard.panes ∧ (∃ lines, waitingBoard.scope .station [] = .ok lines) ∧
    (EngineOk (State.offer waitingBoard .station .cancel []) ∧ Offered waitingBoard .station .cancel [] ∧
      (State.offer waitingBoard .station .cancel []).workInFlight 3 = false) ∧
    (EngineOk (State.offer strikingBoard .station .cancel []) ∧ Offered strikingBoard .station .cancel [] ∧
      (State.offer strikingBoard .station .cancel []).workInFlight 3 = true) :=
  ⟨panesOk_initial, ⟨_, rfl⟩,
    ⟨engineOk_offer _ _ _ _ waiting_engineOk, by decide +kernel, by decide +kernel⟩,
    ⟨engineOk_offer _ _ _ _ striking_engineOk, by decide +kernel, by decide +kernel⟩⟩

/-- Nothing in flight: the engine DEFERRED, so that no line stays queued, and HELD, with lines outside the
scope queued; and no refresh open. -/
theorem test_witness_CancelTakesBackItsLines_follows :
    (EngineOk (State.offer deferredBoard .station .cancel []) ∧ Offered deferredBoard .station .cancel [] ∧
      deferredBoard.quiet = true ∧ deferredBoard.engine.queue = [] ∧ deferredBoard.engine.current = none) ∧
    (EngineOk (State.offer (heldBoard.setPanes threePanes.panes) .station .cancel [1]) ∧
      Offered (heldBoard.setPanes threePanes.panes) .station .cancel [1] ∧
      heldBoard.quiet = true ∧ heldBoard.engine.current = none ∧
      heldBoard.engine.queue.filter (· ∉ [(3 : Line)]) = [6]) ∧
    (EngineOk (State.offer idleBoard .station .cancel []) ∧ Offered idleBoard .station .cancel [] ∧
      idleBoard.engine.refresh = none) :=
  ⟨⟨engineOk_offer _ _ _ _ deferred_engineOk, by decide +kernel, rfl, rfl, rfl⟩,
    ⟨engineOk_offer _ _ _ _ (engineOk_panes _ _ held_engineOk), by decide +kernel, rfl, rfl, by decide⟩,
    ⟨engineOk_offer _ _ _ _ idle_engineOk, by decide +kernel, rfl⟩⟩

/-- A CANCEL prompts the status-line writer by the last unsettled set, and with no refresh open by the stale zones
(R45). -/
theorem test_witness_CancelTakesBackItsLines_prompts :
    (waitingBoard.setWriter { waitingBoard.writer with
      lastUnsettled := (Table.fill false).set 3 true }).cancelPrompts [3] = true ∧
    (idleBoard.setEngine { idleBoard.engine with stale := (Table.fill false).set 12 true }).cancelPrompts [3] =
      true ∧
    deferredBoard.cancelPrompts [3] = false ∧ deferredBoard.engine.stale.get 12 = true := by decide +kernel

/-- R25, R27: a CANCEL of the whole page in DEFERRED closes the refresh CANCELLED; its sender is a requester and
is sent its reply alone, the other requester the notice. -/
theorem test_cancel_in_deferred_tells_the_other_requester :
    (match execCancel .station (State.offer (deferredBoard.updRefresh fun r =>
        { r with requesters := ⟨true, true, false⟩ }) .station .cancel []) with
      | .next t => decide (t.engine.refresh = none ∧ t.engine.state = .idle ∧ t.ports.station.queue = [] ∧
          t.ports.patron.sending =
            some (messageFrame (.notice (.refreshClosed ⟨1, .cancelled, 0, 0, 0, 0, 0, 0⟩))))
      | _ => false) = true := by decide +kernel

/-! ### The pane table -/

/-- Lines 20 to 23 are two panes of LOCAL. -/
def localPanes : State := idleBoard.setPanes
  [⟨0, 0, 19, .station⟩, ⟨1, 20, 21, .localWriter⟩, ⟨2, 22, 23, .localWriter⟩]

theorem panesOk_local : PanesOk localPanes.panes :=
  ⟨by decide, ⟨rfl, by decide, rfl, by decide, rfl, by decide, rfl⟩, by decide⟩

/-- A free id; a split at the first line and past the last; the first and the last line a split can be at; a
full table; a pane of LOCAL. -/
theorem test_witness_SplitDividesOnePane :
    PanesOk twoPanes.panes ∧ PanesOk eightPanes.panes ∧ twoPanes.writer.prompt = false ∧
    (∀ x ∈ ([[7, 1], [1, 10], [0, 10], [0, 1], [0, 9], [1, 11], [1, 23]] : List (List Byte)),
      Offered twoPanes .station .paneSplit x) ∧
    Offered eightPanes .station .paneSplit [0, 1] ∧ eightPanes.panes.length = 8 ∧
    PanesOk localPanes.panes ∧ Offered localPanes .station .paneSplit [1, 21] :=
  ⟨panesOk_two, panesOk_eight, rfl, by decide +kernel, by decide +kernel, rfl, panesOk_local,
    by decide +kernel⟩

/-- A free id; the last pane; a following pane of another owner; one of the same owner; two of LOCAL. -/
theorem test_witness_MergeJoinsTheFollowingPane :
    PanesOk twoPanes.panes ∧ PanesOk eightPanes.panes ∧ eightPanes.writer.prompt = false ∧
    Offered twoPanes .station .paneMerge [7] ∧ Offered twoPanes .station .paneMerge [1] ∧
    Offered twoPanes .station .paneMerge [0] ∧ Offered eightPanes .station .paneMerge [0] ∧
    PanesOk localPanes.panes ∧ Offered localPanes .station .paneMerge [1] :=
  ⟨panesOk_two, panesOk_eight, rfl, by decide +kernel, by decide +kernel, by decide +kernel,
    by decide +kernel, panesOk_local, by decide +kernel⟩

/-- A free id; an owner code that names none; the patron's panes and others from the patron; grants to
each owner with presence and without. -/
theorem test_witness_GrantChangesTheOwner :
    PanesOk twoPanes.panes ∧ twoPanes.writer.prompt = false ∧
    (∀ x ∈ ([[7, 0], [0, 3], [0, 0], [0, 1], [0, 2], [1, 0], [1, 1], [1, 2]] : List (List Byte)),
      Offered twoPanes .station .paneGrant x ∧ Offered twoPanes .patron .paneGrant x) ∧
    Offered (idleBoard.setPorts ⟨freshPort, freshPort, false, none⟩) .station .paneGrant [0, 1] :=
  ⟨panesOk_two, rfl, by decide +kernel, by decide +kernel⟩

theorem test_witness_PresenceLossAndGain :
    twoPanes.ports.presence = true ∧ twoPanes.stage ≠ .unpowered ∧
    (twoPanes.setStage .unpowered).ports.presence = true ∧ State.reset.ports.presence = false := by
  decide +kernel

/-! ### Health records, retained record, modules -/

/-- Each operand outside the page; every entry; one pin, with an entry and without. -/
theorem test_witness_FaultClearRemovesEntries :
    ∀ x ∈ ([[24, 0, 1], [0, 40, 1], [0, 0, 0], [0, 0, 9], [], [0, 0, 1], [23, 39, 8]] : List (List Byte)),
      Offered (idleBoard.setHealth ⟨[⟨0, 0, 0, .stuckRaised, 1⟩], Table.fill 0, Table.fill 0⟩)
        .station .faultClear x := by decide +kernel

/-- An entry on line 3, whose pin is mismatched. -/
def faultOnThree (s : State) : State :=
  (s.putTarget 3 oneCell).setHealth ⟨[⟨3, 0, 0, .stuckLowered, 1⟩], Table.fill 0, Table.fill 0⟩

/-- The cleared line is mismatched, with no refresh open, with one open, and with its module out of service. -/
theorem test_witness_FaultClearRemovesEntries_catch_up :
    ∀ s ∈ [faultOnThree idleBoard, faultOnThree deferredBoard, faultOnThree (withModule 1 .faulted idleBoard)],
      Offered s .station .faultClear [] ∧ 0 < s.health.faultMap.countP (fun _ => true) ∧
      pinState (s.target 3) 0 ≠ pinState (s.sensed 3) 0 := by decide +kernel

/-- R138: a FAULT_CLEAR opens a catch-up refresh with requesters {STATION} for the mismatched line. -/
theorem test_fault_clear_opens_a_catch_up :
    (match execFaultClear .station (State.offer (faultOnThree idleBoard) .station .faultClear [3, 0, 1]) with
      | .next t => decide (t.engine.generation = 1 ∧ t.engine.queue = [3] ∧ t.health.faultMap = [] ∧
          t.modules.operation = some (.sense .pre 3) ∧
          t.engine.refresh.map (·.requesters) = some ⟨true, false, false⟩)
      | _ => false) = true := by decide +kernel

theorem test_witness_RecordCommitAndItsCompletion (r : CheckedRecord) :
    Offered idleBoard .station .recordCommit [] ∧ idleBoard.store.commit = none ∧
    (idleBoard.setStore ⟨.unfinished, some r, .defaulted⟩).store.commit = some r := by
  refine ⟨by decide +kernel, rfl, rfl⟩

/-- A module number above 7; an ABSENT module; one with an operation in flight; one without. -/
theorem test_witness_ModuleResetStartsTheModule :
    Offered idleBoard .station .moduleReset [8] ∧
    (Offered (withModule 7 .absent idleBoard) .station .moduleReset [7] ∧
      (withModule 7 .absent idleBoard).moduleState 7 = .absent) ∧
    (Offered strikingBoard .station .moduleReset [1] ∧ strikingBoard.moduleBusy 1 = true) ∧
    (Offered idleBoard .station .moduleReset [0] ∧ idleBoard.moduleState 0 ≠ .absent ∧
      idleBoard.moduleBusy 0 = false) ∧
    (Offered heldBoard .station .moduleReset [1] ∧ heldBoard.moduleBusy 1 = false) := by decide +kernel

/-- R116, R119: MODULE_CHANGED stands behind the reply. -/
theorem test_module_reset_tells_station :
    (match execModuleReset .station 25 (State.offer heldBoard .station .moduleReset [1]) with
      | .next t => decide (t.ports.station.sending = some (messageFrame (.reply 7 (.moduleReset 1 .starting))) ∧
          t.ports.station.queue = [.notice (.moduleChanged 1 .starting)] ∧ t.engine.queue = [6] ∧
          t.engine.state = .held)
      | _ => false) = true := by decide +kernel

/-- A RESET taken with a patron reply in sending and without; one whose reply still goes out; one due. -/
theorem test_witness_ResetIsAnsweredAndTakesEffectWhenDue :
    Offered idleBoard .station .reset [] ∧
    Offered (idleBoard.setPort .patron (freshPort.pushReply 7 .reset)) .station .reset [] ∧
    (idleBoard.setPorts ⟨freshPort.pushReply 7 .reset, freshPort, true, some ⟨false, false⟩⟩
      ).ports.station.replyOutstanding = true ∧
    (idleBoard.setPorts ⟨freshPort, freshPort, true, some ⟨true, true⟩⟩).ports.resetWait =
      some ⟨true, true⟩ ∧
    freshPort.replyOutstanding = false ∧ freshPort.writtenOutstanding = false ∧
    idleBoard.store.commit = none := by decide +kernel

/-- R179: a patron reply in sending when RESET is taken delays the soft reset until it is out. -/
theorem test_reset_waits_for_the_patron_reply_in_sending :
    (match execReset .station (State.offer (idleBoard.setPort .patron (freshPort.pushReply 7 .reset))
        .station .reset []) with
      | .next t => decide (t.ports.resetWait = some ⟨true, false⟩) &&
        (match execFrameSent .station t with
          | .next u => (match execSoftResetTakesEffect u with
            | .refused _ => (match execFrameSent .patron u with
              | .next v => (match execSoftResetTakesEffect v with | .next _ => true | _ => false)
              | _ => false)
            | _ => false)
          | _ => false)
      | _ => false) = true := by decide +kernel

/-! ### Power and the record load -/

theorem test_witness_PowerOnAndPowerLossSetTheBoard : State.reset.stage ≠ .unpowered := by decide

theorem reset_startOk : StartOk (State.reset.setPending [.powerOn]) where
  load _ := ⟨rfl, rfl, rfl, rfl, rfl, rfl, rfl⟩
  zones h := nomatch h
  absent h := nomatch h
  unread _ := by decide +kernel

theorem test_witness_LoadAfterPowerOnStartsTheSweep :
    (State.reset.setPending [.powerOn]).stage = .loadingPowerOn ∧
    StartOk (State.reset.setPending [.powerOn]) := ⟨rfl, reset_startOk⟩

/-- R102, R151, R171: settings at both ends of their ranges, and outside them. -/
theorem test_clamp_of_stored_settings :
    SettingsInRange defaultSettings ∧
    clampSettings { defaultSettings with baseRaiseUs := 2001, qFloor := 500, qReady := 400 } =
      { defaultSettings with baseRaiseUs := 2000, qFloor := 448, qReady := 464 } ∧
    clampSettings { defaultSettings with qFloor := 64, qReady := 80 } =
      { defaultSettings with qFloor := 64, qReady := 80 } := by
  refine ⟨?_, by decide +kernel, by decide +kernel⟩
  constructor <;> decide

def resetBoard : State :=
  (idleBoard.setEngine initialEngine).setStage (.loadingReset (Table.fill true))

theorem test_witness_LoadAfterSoftResetRestartsModules :
    resetBoard.stage = .loadingReset (Table.fill true) ∧ StartOk resetBoard :=
  ⟨rfl, { load := fun _ => ⟨rfl, rfl, rfl, rfl, rfl, rfl, rfl⟩
          zones := fun _ => by unfold zoneAgrees; decide +kernel
          absent := fun _ => by decide +kernel
          unread := fun h => nomatch h }⟩

/-- The load after a soft reset with every module in the state given and the modules of the mask to be tested; cell
0 of every line was last seen raised. -/
def untestedBoard (x : ModuleState) (mask : Table Bool 8) : State :=
  ((resetBoard.setModules ⟨Table.fill ⟨x, some 25, none⟩, Table.fill true, none⟩).setStage
    (.loadingReset mask)).setPage { resetBoard.page with sensed := Table.fill oneCell }

/-- No module is tested: all are FAULTED, or all ABSENT; and module 1 is tested beside FAULTED ones. -/
theorem test_witness_LoadAfterSoftResetRestartsModules_untested :
    (∀ x ∈ ([.faulted, .absent] : List ModuleState), ∀ m,
      (untestedBoard x (Table.fill false)).moduleState m = x) ∧
    StartOk (untestedBoard .faulted (Table.fill false)) ∧ StartOk (untestedBoard .absent (Table.fill false)) ∧
    StartOk (untestedBoard .faulted ((Table.fill false).set 1 true)) := by
  have ok (x : ModuleState) (mask : Table Bool 8) : StartOk (untestedBoard x mask) :=
    { load := fun _ => ⟨rfl, rfl, rfl, rfl, rfl, rfl, rfl⟩
      zones := fun _ => by unfold zoneAgrees; exact (by decide +kernel : ∀ z : ZoneId,
        (idleBoard.zones.get z).present = true ↔ (idleBoard.zones.get z).state = .arming ∨
          (idleBoard.zones.get z).state = .touched)
      absent := fun _ z _ => (by decide +kernel : ∀ z : ZoneId, idleBoard.zones.get z = ⟨.clear, false⟩) z
      unread := fun h => nomatch h }
  exact ⟨by decide +kernel, ok _ _, ok _ _, ok _ _⟩

/-- R6, R7: with module 1 alone tested the lines of the FAULTED ones are all-lowered, its own as they were; with no
module tested the sweep is over at once. -/
theorem test_load_after_soft_reset_lowers_lines :
    ([(Table.fill false).set 1 true, Table.fill false] : List (Table Bool 8)).map (fun mask =>
      match execRecordLoadComplete (Table.fill true) (Table.fill 25) (untestedBoard .faulted mask) with
      | .next t => some (pinState (t.sensed 0) 0, pinState (t.sensed 3) 0, t.stage, t.engine.state)
      | _ => none) =
    [some (false, true, .sweeping, .sensing), some (false, false, .running, .idle)] := by decide +kernel

/-! ### The links -/

/-- A port in service in each of the receiver's states, with room and without. -/
theorem test_witness_ReceiverTakesBytesByItsTable :
    idleBoard.inService .station = true ∧ State.reset.inService .patron = false ∧
    (∀ r ∈ [Receiver.hunt, .length, .kind 1, .tag 0 1, .tag 1 1, .payload 1 1 1 [], .payload 2 1 1 [],
        .check 0 1 1 [] none, .check 0 1 1 [] (some 9)],
      Port.held { freshPort with receiver := r } < 512) ∧
    Port.held { freshPort with frames := [makeFrame 5 7 (List.replicate 240 0),
      makeFrame 5 7 (List.replicate 240 0), makeFrame 5 7 (List.replicate 14 0)] } = 512 := by
  decide +kernel

theorem test_witness_FramesAreReceivedWhole :
    idleBoard.inService .station = true ∧ (idleBoard.port .station).receiver = .hunt ∧
    (List.replicate 240 (0 : Byte)).length ≤ 240 ∧ (idleBoard.port .station).held + 240 + 6 ≤ 512 := by
  decide +kernel

/-- A frame being received; a frame in sending with nothing and with a notice behind it; a queue of seven
and of eight notices behind a reply. -/
theorem test_witness_GapExpiryFramesSentAndNoticesLost :
    (Receiver.length ≠ .hunt) ∧ (freshPort.sending = none ∧ freshPort.queue = []) ∧
    ((freshPort.pushReply 7 .reset).sending.isSome = true ∧ (freshPort.pushReply 7 .reset).queue = []) ∧
    ((freshPort.pushReply 7 .reset).pushNotice .recordWritten).queue = [.notice .recordWritten] ∧
    ((freshPort.pushReply 7 .reset).pushNotice .recordWritten).sending.isSome = true ∧
    (∀ n ∈ [7, 8], Port.waiting { freshPort with
      sending := some (makeFrame 0x94 7 [])
      queue := .reply 7 .reset :: List.replicate n (.notice .recordWritten) } = n) := by decide +kernel

/-! ### Contact guard -/

theorem test_witness_ZoneFollowsReadingsAndArmingTimer :
    (∀ x ∈ ([⟨.clear, false⟩, ⟨.arming, true⟩, ⟨.touched, true⟩, ⟨.releasing, false⟩] : List Zone),
      (touching x idleBoard).zones.get 12 = x) ∧
    idleBoard.zonesReached = true ∧ idleBoard.lineModule (zoneLine 12) ≠ .absent ∧
    idleBoard.settings.touchNotices = false ∧ idleBoard.stage = .running := by decide +kernel

def staleZone : ZoneSet := (Table.fill false).set 12 true

/-- A released zone outside the stale zone set; one in it while a stroke is in flight; one in it with the
engine DEFERRED; one in it with no refresh open. -/
theorem test_witness_ReleaseEventServesTheZone :
    let released (s : State) : State := touching ⟨.releasing, false⟩ s
    let stale (s : State) : State := released (s.setEngine { s.engine with stale := staleZone })
    (EngineOk (released idleBoard) ∧ ((released idleBoard).zones.get 12).state = .releasing ∧
      (released idleBoard).engine.stale.get 12 = false) ∧
    (EngineOk (stale strikingBoard) ∧ (stale strikingBoard).engine.stale.get 12 = true ∧
      (stale strikingBoard).quiet = false ∧ (stale strikingBoard).lineInService (zoneLine 12) = true) ∧
    (EngineOk (stale deferredBoard) ∧ (stale deferredBoard).engine.stale.get 12 = true ∧
      (stale deferredBoard).engine.state = .deferred ∧
      (stale deferredBoard).lineModule (zoneLine 12) = .ready) ∧
    (EngineOk (stale idleBoard) ∧ (stale idleBoard).engine.stale.get 12 = true ∧
      (stale idleBoard).engine.refresh = none ∧ (stale idleBoard).lineInService (zoneLine 12) = true) :=
  ⟨⟨engineOk_touching _ _ idle_engineOk, by decide +kernel, by decide +kernel⟩,
    ⟨engineOk_touching _ _ (engineOk_stale _ _ rfl striking_engineOk), by decide +kernel, rfl, by decide +kernel⟩,
    ⟨engineOk_touching _ _ (engineOk_stale _ _ rfl deferred_engineOk), by decide +kernel, rfl, by decide +kernel⟩,
    ⟨engineOk_touching _ _ (engineOk_stale _ _ rfl idle_engineOk), by decide +kernel, rfl, by decide +kernel⟩⟩

/-- A released zone of the set whose line is out of service, with no refresh open and with one open; and one while
the engine is in CHARGING on its line, and in HELD. -/
theorem test_witness_ReleaseEventServesTheZone_elsewhere :
    let stale (s : State) : State := touching ⟨.releasing, false⟩ (s.setEngine { s.engine with stale := staleZone })
    (EngineOk (stale (withModule 1 .faulted idleBoard)) ∧
      (stale (withModule 1 .faulted idleBoard)).lineInService (zoneLine 12) = false ∧
      (stale (withModule 1 .faulted idleBoard)).engine.refresh = none) ∧
    (EngineOk (stale (withModule 1 .faulted deferredBoard)) ∧
      (stale (withModule 1 .faulted deferredBoard)).lineInService (zoneLine 12) = false ∧
      (stale (withModule 1 .faulted deferredBoard)).engine.refresh.isSome = true) ∧
    (EngineOk (stale waitingBoard) ∧ (stale waitingBoard).engine.state = .charging ∧
      (stale waitingBoard).quiet = true) ∧
    EngineOk (stale heldBoard) ∧ (stale heldBoard).engine.state = .held ∧ (stale heldBoard).quiet = true :=
  ⟨⟨engineOk_touching _ _ (engineOk_stale _ _ rfl (idle_engineOk_module 1 .faulted)), by decide +kernel, rfl⟩,
    ⟨engineOk_touching _ _ (engineOk_stale _ _ rfl deferred_engineOk_module), by decide +kernel, rfl⟩,
    ⟨engineOk_touching _ _ (engineOk_stale _ _ rfl waiting_engineOk), rfl, rfl⟩,
    engineOk_touching _ _ (engineOk_stale _ _ rfl held_engineOk), rfl, rfl⟩

/-- R29, R60: with the module of the line FAULTED a release opens nothing, and in an open refresh the line becomes
unavailable; in HELD the line keeps its place, and the engine is HELD still. -/
theorem test_release_of_a_line_out_of_service :
    let released (s : State) : Option (Option Bool × List Line × EngineState) :=
      match execReleaseTimerExpiry 12
        (touching ⟨.releasing, false⟩ (s.setEngine { s.engine with stale := staleZone })) with
      | .next t => some (t.engine.refresh.map (·.unavailable.get 3), t.engine.queue, t.engine.state)
      | _ => none
    released (withModule 1 .faulted idleBoard) = some (none, [], .idle) ∧
    released (withModule 1 .faulted deferredBoard) = some (some true, [], .deferred) ∧
    released heldBoard = some (some false, [6, 3], .held) := by decide +kernel

/-! ### Modules -/

/-- A sweep whose module 2 is STARTING, with nothing in flight; line 0 waits or does not. -/
def sweepingBoard (waits : Bool) : State :=
  ((withModule 2 .starting idleBoard).setStage .sweeping).setEngine
    { initialEngine with sweepWaiting := (Table.fill false).set 0 waits }

/-- A self-test ends while a record is loaded; during the sweep, with a line waiting, with none waiting so that
the sweep completes, and with a sense pass in flight; after it with the engine IDLE and with a stroke in
flight. -/
theorem test_witness_SelfTestTakesTheModuleOn_by_stage :
    ((withModule 2 .starting State.reset).moduleState 2 = .starting ∧ State.reset.loading = true) ∧
    (∀ w, (sweepingBoard w).moduleState 2 = .starting ∧ (sweepingBoard w).stage = .sweeping ∧
      (sweepingBoard w).quiet = true ∧ (sweepingBoard w).engine.queue = [] ∧
      (sweepingBoard w).engine.returnList = []) ∧
    (sweepingBoard true).engine.sweepWaiting.get 0 = true ∧
    (∀ l, (sweepingBoard false).engine.sweepWaiting.get l = false) ∧
    (∀ m ≠ (2 : ModuleId), (sweepingBoard false).moduleState m ≠ .starting) ∧
    ((sweepingBoard true).startSense .sweep 3).quiet = false ∧
    ((withModule 2 .starting strikingBoard).moduleState 2 = .starting ∧
      (withModule 2 .starting strikingBoard).quiet = false) := by decide +kernel

/-- R6: in a sweep the lines of the module that passed wait, and the lowest of them is sensed. -/
theorem test_passed_module_is_swept :
    (match execSelfTestComplete 2 true 25 (sweepingBoard false) with
      | .next t => decide (t.modules.operation = some (.sense .sweep 6) ∧
          t.engine.sweepWaiting.members = [7, 8] ∧ t.stage = .sweeping)
      | _ => false) = true := by decide +kernel

/-- R117: after the sweep the first of its lines is sensed for its return. -/
theorem test_passed_module_is_sensed_for_its_return :
    (match execSelfTestComplete 2 true 25 (withModule 2 .starting idleBoard) with
      | .next t => decide (t.modules.operation = some (.sense .return 6) ∧ t.engine.returnList = [6, 7, 8])
      | _ => false) = true := by decide +kernel

theorem test_witness_SelfTestTakesTheModuleOn :
    (withModule 2 .starting idleBoard).moduleState 2 = .starting ∧
    (withModule 2 .starting idleBoard).stage = .running ∧ EngineOk (withModule 2 .starting idleBoard) ∧
    (withModule 2 .starting idleBoard).writer.prompt = false :=
  ⟨by decide +kernel, rfl, idle_engineOk_module _ _, rfl⟩

/-- Each state at and beside its threshold; a current line of the module that waits in CHARGING, struck since
its last sense pass and not; HELD, where the second of two queued lines is on the module that cools. -/
theorem test_witness_TemperatureMovesTheModule :
    (∀ x ∈ [ModuleState.starting, .ready, .hot, .faulted],
      (withModule 2 x idleBoard).moduleState 2 = x) ∧
    (waitingBoard.moduleState 1 = .ready ∧ waitingBoard.engine.current = some ⟨3, startRound⟩ ∧
      waitingBoard.engine.state = .charging ∧ moduleOf 3 = 1 ∧ waitingBoard.page.struck.get 3 = false ∧
      (waitingBoard.setPage { waitingBoard.page with struck := Table.fill true }).page.struck.get 3 = true) ∧
    (heldBoard.moduleState 1 = .hot ∧ heldBoard.engine.state = .held ∧
      heldBoard.engine.queue = [6] ++ 3 :: [] ∧ heldBoard.engine.returnList = [] ∧
      heldBoard.lineModule 6 = .hot ∧ heldBoard.page.fresh.get 3 = false ∧
      heldBoard.writer.prompt = false) := by decide +kernel

/-- R15, R110: HELD with lines 6 and 3 queued, the cooling of line 3's module makes line 3 the current line. -/
theorem test_cooled_module_is_served :
    (match execTemperatureReading 1 75 heldBoard with
      | .next t => decide (t.engine.current = some ⟨3, startRound⟩ ∧ t.engine.queue = [6, 3] ∧
          t.modules.operation = some (.sense .pre 3) ∧
          t.ports.station.sending = some (messageFrame (.notice (.moduleChanged 1 .ready))))
      | _ => false) = true := by decide +kernel

/-- R16, R110: a waiting line whose module goes HOT is suspended and stays queued. -/
theorem test_hot_module_suspends_the_waiting_line :
    (match execTemperatureReading 1 85 waitingBoard with
      | .next t => decide (t.engine.current = none ∧ t.engine.queue = [3] ∧ t.engine.state = .held ∧
          t.ports.station.sending = some (messageFrame (.notice (.moduleChanged 1 .hot))))
      | _ => false) = true := by decide +kernel

/-- The board with VERIFY at 0. -/
def unverified (s : State) : State := s.setSettings { s.settings with verify := false }

theorem test_witness_FaultedModuleLeavesService :
    strikingBoard.modules.operation = some (.stroke testStroke) ∧ strikingBoard.settings.verify = true ∧
    (sensingBoard .sweep).modules.operation = some (.sense .sweep 3) ∧
    (sensingBoard .return).modules.operation = some (.sense .return 3) ∧
    (sensingBoard .audit).modules.operation = some (.sense .audit 3) ∧
    (strikingBoard.engine.cancelled = none ∧
      cancelledStriking.engine.cancelled = some ⟨3, .station, true, true⟩ ∧
      cancelledStriking.modules.operation = some (.stroke testStroke)) ∧
    (unverified strikingBoard).settings.verify = false ∧
    (unverified strikingBoard).modules.operation = some (.stroke testStroke) :=
  ⟨rfl, rfl, rfl, rfl, rfl, ⟨rfl, rfl, rfl⟩, rfl, rfl⟩

/-- R93, R113: with VERIFY at 0 the stroke's pin 0 is raised in sensed where its completion is taken before the
report of the fault, and is not where the report is taken first. -/
theorem test_fault_report_after_the_completion :
    [true, false].map (fun first =>
      match execModuleFaultReport 1 .openCoil first (unverified strikingBoard) with
      | .next t => some (pinState (t.sensed 3) 0, t.moduleState 1)
      | _ => none) = [some (true, .faulted), some (false, .faulted)] := by decide +kernel

/-! ### Sense passes and strokes -/

theorem test_witness_SensePassWritesItsLine (k : SenseKind) :
    (sensingBoard k).modules.operation = some (.sense k 3) := rfl

/-- A line whose target is what the sense pass returns has no undone work. -/
theorem audited_line_done :
    ((idleBoard.startSense .audit 3).endSense 3 blankContent).lineUndone 3 = false := by
  have h : ((idleBoard.startSense .audit 3).endSense 3 blankContent).target 3 =
    ((idleBoard.startSense .audit 3).endSense 3 blankContent).sensed 3 := rfl
  simp [State.lineUndone, State.undone, State.mismatched, h]

/-- The hypotheses of the clause of each kind but the return sense, whose one is
test_witness_SensePassWritesItsLine. -/
theorem test_witness_SensePassesGoOnByTheirKind_sweep :
    let s := (sensingBoard .sweep).setEngine
      { initialEngine with sweepWaiting := (Table.fill false).set 4 true }
    s.modules.operation = some (.sense .sweep 3) ∧ s.writer.prompt = false ∧
    s.engine.sweepWaiting.get 4 = true ∧ ∀ l < (4 : Line), s.engine.sweepWaiting.get l = false := by
  refine ⟨rfl, rfl, ?_⟩
  decide +kernel

/-- The last sweep sense: with a module still STARTING, and with none, under HOLD and under BLANK, with a raised
pin found and with none. -/
theorem test_witness_SensePassesGoOnByTheirKind_last_sweep :
    let s := (idleBoard.setStage .sweeping).setEngine initialEngine |>.startSense .sweep 3
    let blank := s.setSettings { defaultSettings with resetPolicy := .blank }
    s.modules.operation = some (.sense .sweep 3) ∧ (∀ l, s.engine.sweepWaiting.get l = false) ∧
    (withModule 2 .starting s).moduleState 2 = .starting ∧ (∀ m, s.moduleState m ≠ .starting) ∧
    (s.settings.resetPolicy = .hold ∨ s.settings.resetPolicy = .blank) ∧
    blank.settings.resetPolicy = .blank ∧
    (s.setSettings { defaultSettings with resetPolicy := .hold }).settings.resetPolicy = .hold ∧
    s.lineInService 3 = true ∧ pinState oneCell 0 = true := by decide +kernel

/-- R7: the last sweep sense finds line 3 raised: under BLANK generation 1 opens with line 3 queued and its
target all-lowered; under HOLD the engine is IDLE and target is what was sensed. -/
theorem test_last_sweep_sense_sets_the_page :
    let s := (idleBoard.setStage .sweeping).setEngine initialEngine |>.startSense .sweep 3
    let after (policy : ResetPolicy) : Option (Nat × EngineState × List Line × Bool) :=
      match execSweepSenseComplete oneCell (s.setSettings { defaultSettings with resetPolicy := policy }) with
      | .next t => some (t.engine.generation.toNat, t.engine.state, t.engine.queue, t.target 3 == oneCell)
      | _ => none
    after .blank = some (1, .charging, [3], false) ∧ after .hold = some (0, .idle, [], true) := by
  decide +kernel

theorem test_witness_SensePassesGoOnByTheirKind_pre :
    let s := (sensingBoard .pre).putTarget 3 blankContent
    s.modules.operation = some (.sense .pre 3) ∧ s.writer.prompt = false ∧ s.engine.cancelled = none ∧
    s.engine.current = some ⟨3, startRound⟩ ∧ s.lineModule 3 ≠ .hot ∧
    (s.endSense 3 oneCell).hasCandidate ⟨3, startRound⟩ = true ∧
    s.reservoir.q < s.settings.qReady := by
  refine ⟨rfl, rfl, rfl, rfl, by decide +kernel, by decide +kernel, by decide⟩

theorem test_witness_SensePassesGoOnByTheirKind_cancel :
    let s := (sensingBoard .cancel).setEngine { initialEngine with cancelled := some ⟨3, .station, true, true⟩ }
    s.modules.operation = some (.sense .cancel 3) ∧ s.engine.cancelled = some ⟨3, .station, true, true⟩ ∧
    s.owns .localWriter 3 = false := by
  refine ⟨rfl, rfl, by decide +kernel⟩

theorem test_witness_SensePassesGoOnByTheirKind_audit :
    let s := idleBoard.startSense .audit 3
    s.modules.operation = some (.sense .audit 3) ∧ s.writer.prompt = false ∧ s.engine.refresh = none ∧
    s.engine.returnList = [] ∧ (s.endSense 3 blankContent).lineUndone 3 = false :=
  ⟨rfl, rfl, rfl, rfl, audited_line_done⟩

/-- A pre-sense, verify sense and CANCEL sense of a line that a CANCEL took. -/
theorem test_witness_SensePassesGoOnByTheirKind_cancelled (k : SenseKind) :
    (cancelledStriking.setOperation (some (.sense k 3))).modules.operation = some (.sense k 3) ∧
    (cancelledStriking.setOperation (some (.sense k 3))).engine.cancelled =
      some ⟨3, .station, true, true⟩ := ⟨rfl, rfl⟩

/-- An audit sense and a return sense that find line 3 mismatched, with no refresh open and with one open. -/
theorem test_witness_SensePassesGoOnByTheirKind_mismatched :
    ∀ k ∈ [SenseKind.audit, .return], ∀ s ∈ [idleBoard, deferredBoard],
      ((s.putTarget 3 oneCell).startSense k 3).modules.operation = some (.sense k 3) ∧
      (((s.putTarget 3 oneCell).startSense k 3).endSense 3 blankContent).lineUndone 3 = true := by
  decide +kernel

/-- R30: an audit sense that finds a mismatched pin opens a refresh of STATION, and the fresh line waits for
charge without a pre-sense. -/
theorem test_audit_opens_a_catch_up :
    (match execAuditSenseComplete blankContent ((idleBoard.putTarget 3 oneCell).startSense .audit 3) with
      | .next t => decide (t.engine.generation = 1 ∧ t.engine.queue = [3] ∧ t.engine.state = .charging ∧
          t.engine.refresh.map (·.requesters) = some ⟨true, false, false⟩)
      | _ => false) = true := by decide +kernel

/-- A TRIM_LIST waits on the station link while the verify sense of line 3 completes. -/
theorem test_witness_VerifySenseMovesTheTrims :
    (sensingBoard .verify).modules.operation = some (.sense .verify 3) ∧
    (sensingBoard .verify).engine.current = some ⟨3, startRound⟩ ∧
    (sensingBoard .verify).engine.cancelled = none ∧
    Offered (sensingBoard .verify) .station .trimList [] := ⟨rfl, rfl, rfl, by decide +kernel⟩

/-- The round state in which cell 0 and cell 20 of line 3 have been fired. -/
def firedRound : Round :=
  ⟨2, .raise, Table.tab fun p => ⟨3, false, false, cellOf p == 0 || cellOf p == 20, false⟩⟩

/-- Cell 0 and cell 20 of line 3 are to be raised, and their verify sense is in flight after the last round. -/
def stuckBoard : State :=
  ((sensingBoard .verify).putTarget 3 (oneCell.set 20 0xFF)).setEngine
    { (sensingBoard .verify).engine with current := some ⟨3, firedRound⟩ }

/-- R145: a TRIM_LIST taken between the two updates of a verify shows 1 for the first bank of line 3 and still
0 for the second, whose trim is then 1 as well. -/
theorem test_trim_list_between_the_bank_updates :
    let t := ((State.offer stuckBoard .station .trimList []).endSense 3 blankContent).updateTrims
      ⟨3, firedRound⟩ blankContent [.station]
    t.ports.station.sending = some (messageFrame (.reply 7 (.trims ((Table.fill 0).set 6 1)))) ∧
    t.health.trims = ((Table.fill 0).set 6 1).set 7 1 := by decide +kernel

/-- The verify sense of the last round, of an earlier one with an open mismatch, and of one without; a refresh
that is open. -/
theorem test_witness_FinishedLineEntersItsSets :
    (stuckBoard.modules.operation = some (.sense .verify 3) ∧
      stuckBoard.engine.current = some ⟨3, firedRound⟩ ∧ stuckBoard.engine.cancelled = none ∧
      stuckBoard.settings.retryMax ≤ firedRound.number) ∧
    (startRound.number < stuckBoard.settings.retryMax ∧
      ∃ p, pinState (stuckBoard.target 3) p ≠ pinState blankContent p ∧
        stuckBoard.faultMapped 3 p = false ∧ stuckBoard.guarded (pinZone 3 p) = false) ∧
    (waitingBoard.target 3 = oneCell) ∧
    waitingBoard.engine.refresh = some (openRecord (onlyRequester .station)) :=
  ⟨⟨rfl, rfl, rfl, by decide⟩, ⟨by decide, 0, by decide +kernel⟩, rfl, rfl⟩

/-- R19, R91, R122: a verify sense of round 0 that finds pin 0 lowered begins round 1, whose LOWER phase ends at
once: the attempt counts are kept, nothing is fired, and the line waits for charge. -/
theorem test_next_round_keeps_the_attempts :
    (match execVerifySenseComplete ⟨blankContent, []⟩ (stuckBoard.setEngine
        { stuckBoard.engine with current := some ⟨3, { firedRound with number := 0 }⟩ }) with
      | .next t => t.engine.current.map fun c =>
          (c.round.number, c.round.phase, (c.round.pins.get 0).attempts, c.round.fired, t.engine.state)
      | _ => none) = some (1, .raise, 3, false, .charging) := by decide +kernel

theorem test_witness_ExhaustedPinsEnterTheFaultMap :
    stuckBoard.engine.refresh = some (openRecord (onlyRequester .station)) ∧
    stuckBoard.stage = .running ∧ stuckBoard.exhausted ⟨3, firedRound⟩ 0 = true :=
  ⟨rfl, rfl, by decide +kernel⟩

/-- LOCAL owns lines 20 to 23, the fault map holds an entry on line 5, and the writer is prompted while an
audit sense is in flight. -/
def faultedLocal : State :=
  ((localPanes.startSense .audit 0).setHealth
    ⟨[⟨5, 0, 0, .stuckRaised, 1⟩], Table.fill 0, Table.fill 0⟩).promptWriter

/-- A prompt with a refresh open; one with none, where the panes of LOCAL differ from what is composed and an
audit sense is in flight; one where they do not differ. -/
theorem test_witness_StatusLineWriterShowsWorkAndFaults :
    waitingBoard.promptWriter.writer.prompt = true ∧ waitingBoard.promptWriter.engine.refresh.isSome = true ∧
    (faultedLocal.writer.prompt = true ∧ faultedLocal.engine.refresh = none ∧
      faultedLocal.stage = .running ∧ faultedLocal.quiet = false ∧
      faultedLocal.owns .localWriter 20 = true ∧ faultedLocal.staging 20 ≠ faultedLocal.composed 20 ∧
      (faultedLocal.composed 20).get 5 = 192 ∧ faultedLocal.staging 21 = faultedLocal.composed 21) ∧
    (∀ ln : Line, localPanes.owns .localWriter ln = true → localPanes.staging ln = blankContent) := by
  decide +kernel

/-- R46, R47: with an entry in the map on line 5, cell 5 of the status lines 20 and 22 shows dots 7 and 8, and
LOCAL commits it. -/
theorem test_status_lines_show_a_fault :
    let t := faultedLocal.settle
    t.staging 20 = (Table.fill 0).set 5 192 ∧ t.target 22 = (Table.fill 0).set 5 192 ∧
    t.target 21 = blankContent ∧ t.engine.queue = [20, 22] ∧ t.writer.prompt = false := by
  decide +kernel

/-- Fingers lie on the status lines 20 and 22, DEFER_MS is 0, and line 20 shows in sensed the mark that line 22
has not: each answer to a prompt then raises the next one, without end (log entry 9). -/
def endlessBoard : State :=
  let s := localPanes.setSettings { defaultSettings with deferMs := 0 }
  let s := s.setZones (Table.tab fun z =>
    if zoneLine z = 20 ∨ zoneLine z = 22 then ⟨.touched, true⟩ else ⟨.clear, false⟩)
  let s := s.setPage { s.page with fresh := Table.fill true }
  ((s.putSensed 20 ((Table.fill 0).set 22 36)).putStaging 20 oneCell).promptWriter

/-- The answer closes the refresh it opened and raises the next prompt. -/
theorem test_answer_of_a_chain_raises_the_next_prompt :
    endlessBoard.answerPrompt.writer.prompt = true := by decide +kernel

/-- A step with no command waiting makes the next answer. -/
theorem test_idle_step_answers_a_raised_prompt :
    (match step faultedLocal with
      | .next t => decide (t = faultedLocal.settle)
      | _ => false) = true := by decide +kernel

/-- Line 3 matches its target, so that no pin may be driven. -/
theorem matched_line_drives_none (s : State) (c : Current) (h : s.target c.line = s.sensed c.line)
    (p : LinePin) : ¬ s.mayDrive c p := fun x => x.1 (by rw [h])

/-- The packing points: a HOT module, with the line struck and not; a candidate, with Q at Q_READY and below; a
LOWER phase with none and a RAISE phase that has one; a RAISE phase with none, and both, with VERIFY at 1 and at
0, a pin fired in the round and none, before the last round and after it. -/
theorem test_witness_StrokeCompletionAndPackingPoint_cases :
    ((withModule 1 .hot waitingBoard).lineModule 3 = .hot ∧ waitingBoard.page.struck.get 3 = false ∧
      (waitingBoard.setPage { waitingBoard.page with struck := Table.fill true }).page.struck.get 3 = true) ∧
    (loweringBoard.lineModule 3 ≠ .hot ∧ loweringBoard.mayDrive ⟨3, startRound⟩ 0 ∧
      loweringBoard.reservoir.q < loweringBoard.settings.qReady) ∧
    ((∀ p, ¬ waitingBoard.mayDrive ⟨3, startRound⟩ p) ∧ startRound.phase = .lower ∧
      waitingBoard.mayDrive (Current.raising ⟨3, startRound⟩) 0) ∧
    ((∀ c : Current, c.line = 3 → ∀ p, ¬ (waitingBoard.putTarget 3 blankContent).mayDrive c p) ∧
      firedRound.phase = .raise ∧ (∃ p, (firedRound.pins.get p).firedInRound = true) ∧
      (∀ p, (startRound.pins.get p).firedInRound = false) ∧ waitingBoard.settings.verify = true ∧
      waitingBoard.settings.retryMax ≤ firedRound.number ∧
      startRound.number < waitingBoard.settings.retryMax) := by
  refine ⟨by decide +kernel, by decide +kernel, ⟨by decide +kernel, rfl, by decide +kernel⟩, ?_⟩
  exact ⟨fun c hc p => matched_line_drives_none _ c (by rw [hc]; rfl) p, rfl, ⟨0, by decide +kernel⟩,
    by simp [startRound, freshPin], rfl, by decide, by decide⟩

/-- R84: a stroke of line 3 completes with VERIFY at 0; its pin is assumed driven, and with Q below Q_READY the
line waits for charge for its other pins. -/
theorem test_stroke_completion_waits_for_charge :
    (match execStrokeComplete (strikingBoard.setSettings { defaultSettings with verify := false }) with
      | .next t => decide (t.engine.state = .charging ∧ t.engine.queue = [3] ∧
          t.modules.operation = none) && pinState (t.sensed 3) 0
      | _ => false) = true := by decide +kernel

/-- VERIFY at 1 and at 0; a line that a CANCEL took, with VERIFY read as 1 and as 0; the current line. -/
theorem test_witness_StrokeCompletionAndPackingPoint :
    strikingBoard.modules.operation = some (.stroke testStroke) ∧
    (strikingBoard.setSettings { defaultSettings with verify := false }).settings.verify = false ∧
    strikingBoard.writer.prompt = false ∧ strikingBoard.owns .localWriter 3 = false ∧
    (strikingBoard.engine.cancelled = none ∧ strikingBoard.engine.current = some ⟨3, startRound⟩) ∧
    (∀ v, ((strikingBoard.setEngine { strikingBoard.engine with
      queue := [], current := none
      cancelled := some ⟨3, .station, true, v⟩ }).engine.cancelled =
        some ⟨3, .station, true, v⟩)) :=
  ⟨rfl, rfl, rfl, by decide +kernel, ⟨rfl, rfl⟩, fun _ => rfl⟩

/-- R140: VERIFY set to 0 after a CANCEL that read 1: the sense pass of the cancelled line follows all the
same. -/
theorem test_cancel_decides_by_its_own_verify :
    (match execStrokeComplete ((strikingBoard.setSettings { defaultSettings with verify := false }).setEngine
        { strikingBoard.engine with
          queue := [], current := none, cancelled := some ⟨3, .station, true, true⟩ }) with
      | .next t => decide (t.modules.operation = some (.sense .cancel 3))
      | _ => false) = true := by decide +kernel

/-! ### Charger, audit, deadline -/

/-- A charger step below Q_READY; one that reaches it with a candidate; an idle interval that runs. -/
theorem test_witness_ChargerStepsAndIdleExpiry :
    (waitingBoard.reservoir.charger = .charging ∧ waitingBoard.writer.prompt = false) ∧
    (waitingBoard.setReservoir ⟨478, .charging, none⟩).reservoir.q + 1 < waitingBoard.settings.qReady ∧
    (loweringBoard.engine.state = .charging ∧ loweringBoard.engine.current = some ⟨3, startRound⟩ ∧
      loweringBoard.settings.qReady ≤ loweringBoard.reservoir.q + 1 ∧
      loweringBoard.lineModule 3 ≠ .hot ∧ loweringBoard.hasCandidate ⟨3, startRound⟩ = true) ∧
    (idleBoard.setReservoir ⟨512, .full, some 30000⟩).reservoir.idle.isSome = true := by
  refine ⟨⟨rfl, rfl⟩, ?_⟩
  decide +kernel

/-- R85, R86: at the unit that brings Q to Q_READY the wait of line 3 ends: with its module HOT the line is
suspended and the engine HELD; with target matched by sensed the line finishes and the refresh closes. -/
theorem test_end_of_a_wait_without_a_stroke :
    [withModule 1 .hot loweringBoard, waitingBoard.putTarget 3 blankContent].map (fun s =>
      match execChargerStep s with
      | .next t => some (t.engine.state, t.engine.current.isSome, t.engine.queue, t.reservoir.q)
      | _ => none) =
    [some (.held, false, [3], 480), some (.idle, false, [], 480)] := by decide +kernel

theorem test_witness_AuditSensesTheNextLine :
    idleBoard.engine.auditInterval.isSome = true ∧ idleBoard.quiet = true ∧
    idleBoard.engine.returnList = [] ∧ idleBoard.lineModule 0 = .ready ∧ idleBoard.lineGuarded 0 = false ∧
    (∀ l : Line, (idleBoard.setModules ⟨Table.fill ⟨.hot, some 90, none⟩, Table.fill true, none⟩).lineModule
      l ≠ .ready) := by decide +kernel

/-- The choice: a line waiting for its return sense; an empty queue; only lines on HOT modules; of lines 6, 3
and 0, line 0 on a READY module, not fresh and fresh. -/
theorem test_witness_ChoiceCloseDecisionAndDeadline_choice :
    let several := heldBoard.setEngine { heldBoard.engine with queue := [6] ++ [3] ++ 0 :: [1] }
    ({ heldBoard.engine with returnList := [4, 5] }.returnList = 4 :: [5]) ∧
    (deferredBoard.engine.returnList = [] ∧ deferredBoard.engine.queue = []) ∧
    (heldBoard.engine.queue ≠ [] ∧ ∀ l ∈ heldBoard.engine.queue, heldBoard.lineModule l ≠ .ready) ∧
    (several.lineModule 0 = .ready ∧ several.lineModule 6 ≠ .ready ∧ several.lineModule 3 ≠ .ready ∧
      several.page.fresh.get 0 = false ∧
      (several.setPage { several.page with fresh := Table.fill true }).page.fresh.get 0 = true) := by
  decide +kernel

/-- The close decision: no stale zone, with every line settled, with one unsettled and with one unavailable; a
stale zone with the expired flag set, with DEFER_MS at 0, and with neither; the deadline absent and running. -/
theorem test_witness_ChoiceCloseDecisionAndDeadline_rows :
    let r := openRecord ⟨true, true, true⟩
    waitingBoard.engine.stale.count = 0 ∧ waitingBoard.engine.refresh.isSome = true ∧
    waitingBoard.powered = true ∧ waitingBoard.ports.presence = true ∧
    (∀ l, r.unsettled.get l = false ∧ r.unavailable.get l = false) ∧
    ({ r with unsettled := r.unsettled.set 23 true }.unsettled.get 23 = true) ∧
    ({ r with unavailable := r.unavailable.set 0 true }.unavailable.get 0 = true) ∧
    0 < deferredBoard.engine.stale.count ∧ ({ r with expired := true }.expired = true) ∧
    r.expired = false ∧ r.deadline = none ∧ 0 < deferredBoard.settings.deferMs := by decide +kernel

/-- R25, R26: the four outcomes of a close decision with STATION and PATRON as requesters, and the entry to
DEFERRED, by engine state, last refresh outcome told to PATRON, and deadline. -/
theorem test_close_decisions :
    let s := waitingBoard.setEngine
      { waitingBoard.engine with queue := [], current := none, refresh := some (openRecord ⟨true, true, true⟩) }
    let stale := s.setEngine { s.engine with stale := (Table.fill false).set 12 true }
    let told (t : State) : EngineState × Option Frame × Option (Option Nat) :=
      (t.engine.state, t.ports.patron.sending, t.engine.refresh.map (·.deadline))
    let closed (o : CloseOutcome) (n : Nat) : Option Frame :=
      some (messageFrame (.notice (.refreshClosed ⟨1, o, 0, n, 0, 0, 0, 0⟩)))
    told (s.closeDecision none) = (.idle, closed .complete 0, none) ∧
    told (s.closeDecision (some .station)) = (.idle, closed .cancelled 0, none) ∧
    told (s.closeDecision (some .patron)) = (.idle, none, none) ∧
    told (stale.closeDecision none) = (.deferred, none, some (some 3000)) ∧
    told ((stale.setSettings { defaultSettings with deferMs := 0 }).closeDecision none) =
      (.idle, closed .partialWork 1, none) := by decide +kernel

theorem test_witness_ChoiceCloseDecisionAndDeadline :
    deferredBoard.engine.state = .deferred ∧ 0 < deferredBoard.engine.stale.count ∧
    deferredBoard.ownedLines .localWriter = [] ∧ deferredBoard.engine.returnList = [] ∧
    (deferredBoard.engine.refresh.map fun r => r.deadline.isSome) = some true ∧
    (deferredBoard.setEngineState .held).engine.state ≠ .deferred := by decide +kernel

/-! ### Widths, strokes, firing -/

/-- Widths below, within and above the range of R79. -/
theorem test_witness_WidthAndDrawOfAPin :
    trimmedWidth ⟨200, .short, 30, 70, 0, 512, -32, 32⟩ < 150 ∧
    trimmedWidth ⟨900, .normal, 12, 25, 0, 480, 0, 8⟩ = 889 ∧
    3000 < trimmedWidth ⟨700, .short, 12, -20, 2, 100, 31, 8⟩ := by decide +kernel

/-- The first position of a strip, whose two lower neighbours lie off the strip. -/
theorem test_witness_PatternIndexOfTheNeighbours :
    (positionOf 80 : Int) - 2 < 0 ∧ stripOf 81 = stripOf 80 ∧ positionOf 81 = positionOf 80 + 1 ∧
    79 < (positionOf 159 : Int) + 1 := by decide +kernel

/-- Q at Q_FLOOR + 16 with a candidate. -/
theorem test_witness_FormedStrokeKeepsItsLimits :
    (waitingBoard.setReservoir ⟨336, .charging, none⟩).hasCandidate ⟨3, ⟨0, .raise, Table.fill freshPin⟩⟩ =
      true ∧ waitingBoard.settings.qFloor + 16 ≤ 336 := by decide +kernel

/-- A RAISE phase of line 3 at Q_FLOOR + 16, with pins 0, 1, 2, 4, 6, 8 and 10 to be raised. -/
def crowdedBoard : State :=
  (waitingBoard.putTarget 3 ⟨[9, 1, 1, 1, 1, 1] ++ List.replicate 34 0, rfl⟩).setReservoir ⟨336, .charging, none⟩

/-- The stroke takes pins 0, 2, 4 and 6 and with them 15 of its budget of 16 units: pin 1 is left out as adjacent
to a taken pin, and pin 8 by the budget. -/
theorem test_stroke_leaves_out_by_adjacency_and_budget :
    let c : Current := ⟨3, ⟨0, .raise, Table.fill freshPin⟩⟩
    let ks := crowdedBoard.formStroke c
    ks.map (fun k => (k.pin.val, k.drive.draw)) = [(0, 3), (2, 4), (4, 4), (6, 4)] ∧
    crowdedBoard.mayDrive c 1 ∧ crowdedBoard.mayDrive c 8 := by decide +kernel

/-- A stroke with no clamped width and one with a clamped width. -/
theorem test_witness_FiringCountsAndDrawsCharge :
    (∀ k ∈ ([⟨0, ⟨900, 3, false⟩⟩] : List Pick), k.drive.clamped = false) ∧
    (∃ k ∈ ([⟨0, ⟨3000, 8, true⟩⟩] : List Pick), k.drive.clamped = true) ∧
    waitingBoard.engine.refresh = some (openRecord (onlyRequester .station)) := by
  refine ⟨by decide, by decide, rfl⟩

/-! ### Invariants: a state that has each, with a step that answers a next state -/

theorem step_idle_power :
    (match step (idleBoard.setPending [.byteReceived .station 0]) with
      | .next t => decide (t.pending = [])
      | _ => false) = true := by decide +kernel

theorem test_witness_StepsKeepSettingsAndReservoir :
    ChargeOk (idleBoard.setPending [.byteReceived .station 0]) where
  settings := by constructor <;> decide
  bound := by decide
  off _ := rfl
  full := by decide

theorem test_witness_StepsKeepTheHealthRecords :
    TablesOk (idleBoard.setPending [.byteReceived .station 0]) where
  working := ⟨by decide, by decide, by decide +kernel, fun i => by
    show blankHealth.wear.get i ≤ _
    simp [blankHealth]⟩
  stored _ h := nomatch h
  snapshot _ h := nomatch h
  writing h := nomatch h

theorem idle_startOk : StartOk (idleBoard.setPending [.byteReceived .station 0]) :=
  startOk_running _ rfl (by decide +kernel) (by unfold zoneAgrees; decide +kernel)

theorem test_witness_StepsKeepThePaneTable :
    PaneTableOk (idleBoard.setPending [.byteReceived .station 0]) ∧
    StartOk (idleBoard.setPending [.byteReceived .station 0]) :=
  ⟨⟨panesOk_initial, fun h => nomatch h⟩, idle_startOk⟩

theorem portOk_fresh : PortOk freshPort := ⟨by decide, by decide, by decide, fun _ => rfl⟩

theorem test_witness_StepsKeepThePorts :
    PortsOk (idleBoard.setPending [.byteReceived .station 0]) ∧
    StartOk (idleBoard.setPending [.byteReceived .station 0]) :=
  ⟨⟨portOk_fresh, portOk_fresh, fun h => (nomatch h), fun h => (nomatch h)⟩, idle_startOk⟩

theorem test_witness_StepsKeepStartUpAndZones : StartOk (idleBoard.setPending [.byteReceived .station 0]) :=
  idle_startOk

theorem test_witness_StepsKeepTheRefreshEngine :
    EngineOk (idleBoard.setPending [.byteReceived .station 0]) ∧
    StartOk (idleBoard.setPending [.byteReceived .station 0]) := by
  obtain ⟨a, b, c, d, e, f, sm, g, i, j, m, n, o, p, w, q, r, t, u, v⟩ := idle_engineOk
  exact ⟨⟨a, b, c, d, e, f, sm, g, i, j, m, n, o, p, w, q, r, t, u, v⟩, idle_startOk⟩

end Sys2Proof.Tests
end

section
/-!
Writes to staging: WRITE_CELLS and FILL_LINES (R39, R40, R166, R167). First what the bytes of a request name, what
the taking of a request and a write to staging do, then each service in its cases, then the two statements.
-/

namespace Sys2Proof

namespace Table

/-- Setting the same entry at every number of a list. -/
theorem get_foldl_set {α : Type} {n : Nat} (x : α) (is : List (Fin n)) (j : Fin n) :
    ∀ t : Table α n,
      (is.foldl (fun t i => t.set i x) t).get j = if j ∈ is then x else t.get j := by
  induction is with
  | nil => simp
  | cons i is ih =>
    intro t
    rw [List.foldl_cons, ih, get_set]
    grind

end Table

namespace Machine

/-! ### What the bytes of a request name -/

theorem lineOf_eq_none_iff (b : Byte) : lineOf b = none ↔ 23 < b.toNat := by
  unfold lineOf
  split <;> simp <;> omega

theorem lineOf_of_toNat {b : Byte} {ln : Line} (h : b.toNat = ln.val) : lineOf b = some ln := by
  simp [lineOf, h]

theorem cellOfByte_eq_none_iff (b : Byte) : cellOfByte b = none ↔ 39 < b.toNat := by
  unfold cellOfByte
  split <;> simp <;> omega

theorem cellOfByte_of_toNat {b : Byte} {c : Cell} (h : b.toNat = c.val) : cellOfByte b = some c := by
  simp [cellOfByte, h]

theorem exists_line {b : Byte} (h : b.toNat ≤ 23) : ∃ ln : Line, b.toNat = ln.val :=
  ⟨⟨b.toNat, by omega⟩, rfl⟩

theorem exists_cell {b : Byte} (h : b.toNat ≤ 39) : ∃ c : Cell, b.toNat = c.val :=
  ⟨⟨b.toNat, by omega⟩, rfl⟩

theorem cellsNamed_toNat (c : Cell) (count : Byte) :
    cellsNamed c count.toNat = if count = 0 then 40 - c.val else count.toNat := by
  simp [cellsNamed, ← BitVec.toNat_inj]

theorem mem_lineRange (a b ln : Line) : ln ∈ lineRange a b ↔ a ≤ ln ∧ ln ≤ b := by
  simp [lineRange, mem_allLines]

theorem length_lineRange (a b : Line) : (lineRange a b).length = b.val + 1 - a.val := by
  have hnodup : (lineRange a b).Nodup := (List.nodup_finRange 24).filter _
  have hset : (lineRange a b).toFinset = Finset.Icc a b := by
    ext ln
    simp [mem_lineRange]
  rw [← List.toFinset_card_of_nodup hnodup, hset, Fin.card_Icc]

/-! ### The taking of a request, and writes to staging -/

/-- A request taken whose service accepts it. -/
theorem take_of_served {s u : State} {l : Link} {k : RequestKind} {f : Frame} {serve : Service}
    (h : Takes s l k f) (hs : serve (s.popFrame l) f = .ok u) : s.take l k serve = .next u := by
  rw [take_of_takes h, hs]

/-- A request taken that a check of its service refuses. -/
theorem take_of_refused {s : State} {l : Link} {k : RequestKind} {f : Frame} {why : Reason}
    {serve : Service} (h : Takes s l k f) (hs : serve (s.popFrame l) f = .error why) :
    s.take l k serve = .next (s.turnedAway l f why) := by
  rw [take_of_takes h, hs]

@[simp] theorem owns_popFrame (s : State) (l : Link) : (s.popFrame l).owns = s.owns := by
  cases l <;> rfl

@[simp] theorem page_popFrame (s : State) (l : Link) : (s.popFrame l).page = s.page := by
  cases l <;> rfl

@[simp] theorem staging_popFrame (s : State) (l : Link) : (s.popFrame l).staging = s.staging := by
  cases l <;> rfl

/-- The taking of a frame and a change of the page store commute. -/
theorem setPage_popFrame (s : State) (l : Link) (page : PageStore) :
    (s.popFrame l).setPage page = (s.setPage page).popFrame l := by
  cases l <;> rfl

/-- A write to the staging of lines, one after the other, is one change of the staging image. -/
theorem foldl_putStaging (content : Content) (ls : List Line) :
    ∀ s : State, ls.foldl (fun s ln => s.putStaging ln content) s =
      s.setPage { s.page with
        staging := ls.foldl (fun t ln => t.set ln content) s.page.staging } := by
  induction ls with
  | nil => intro s; rfl
  | cons ln ls ih =>
    intro s
    rw [List.foldl_cons, ih]
    rfl

/-! ### WRITE_CELLS -/

section

variable (l : Link) (s : State) {f : Frame} {line first count : Byte} {bytes : List Byte}

theorem serveWriteCells_outOfRange (hp : f.payload = line :: first :: count :: bytes)
    (h : 23 < line.toNat ∨ 39 < first.toNat) : serveWriteCells l s f = .error .outOfRange := by
  simp only [serveWriteCells, hp]
  rcases h with h | h
  · rw [(lineOf_eq_none_iff line).2 h]
  · rw [(cellOfByte_eq_none_iff first).2 h]
    cases lineOf line <;> rfl

/-- Once line and first cell are read, the length is compared, then the owner looked up. -/
theorem serveWriteCells_inRange {ln : Line} {c : Cell}
    (hp : f.payload = line :: first :: count :: bytes)
    (hln : line.toNat = ln.val) (hc : first.toNat = c.val) :
    serveWriteCells l s f =
      if bytes.length = cellsNamed c count.toNat then
        if s.owns (linkIdentity l) ln then
          .ok ((s.putStaging ln
              (writeContent (s.staging ln) c (cellsAddressed c count.toNat) bytes)).sendReply l f.tag
            (.cellsWritten (cellsAddressed c count.toNat) 0))
        else .ok (s.sendReply l f.tag (.cellsWritten 0 (cellsAddressed c count.toNat)))
      else .error .badLength := by
  simp only [serveWriteCells, hp, lineOf_of_toNat hln, cellOfByte_of_toNat hc]

end

/-- A write to some cells of one line, read back at any line and cell. -/
theorem get_set_writeContent (staging : Image) (ln ln' : Line) (first c : Cell) (n : Nat)
    (bytes : List Byte) :
    ((staging.set ln (writeContent (staging.get ln) first n bytes)).get ln').get c =
      if ln' = ln ∧ first.val ≤ c.val ∧ c.val < first.val + n then
        bytes.getD (c.val - first.val) 0
      else (staging.get ln').get c := by
  rw [Table.get_set]
  by_cases h : ln' = ln
  · subst h
    simp [writeContent]
  · simp [h, Ne.symm h]

/-- Settles O14: the service's checks in their order, then the owner's lookup. -/
theorem writeCellsWritesOwnedStaging : Obligations.WriteCellsWritesOwnedStaging := by
  intro l f s line first count bytes hp ht named n
  refine ⟨fun h => take_of_refused ht (serveWriteCells_outOfRange l _ hp h), ?_, ?_⟩
  · intro hline hfirst hlen
    obtain ⟨ln, hln⟩ := exists_line hline
    obtain ⟨c, hc⟩ := exists_cell hfirst
    have hnamed : cellsNamed c count.toNat = named := by rw [cellsNamed_toNat, ← hc]
    refine take_of_refused ht ?_
    rw [serveWriteCells_inRange l _ hp hln hc, hnamed, if_neg hlen]
  · intro ln hln hfirst hlen
    obtain ⟨c, hc⟩ := exists_cell hfirst
    have hnamed : cellsNamed c count.toNat = named := by rw [cellsNamed_toNat, ← hc]
    have hn : cellsAddressed c count.toNat = n := by rw [cellsAddressed, hnamed, ← hc]
    have hserve := serveWriteCells_inRange l (s.popFrame l) hp hln hc
    rw [hnamed, if_pos hlen, hn, owns_popFrame] at hserve
    constructor
    · intro howns
      refine take_of_served ht ?_
      rw [hserve, howns]
      rfl
    · intro howns
      refine ⟨{ s.page with
          staging := s.page.staging.set ln (writeContent (s.staging ln) c n bytes) },
        take_of_served ht ?_, rfl, rfl, rfl, rfl, ?_⟩
      · rw [hserve, howns, if_pos rfl, State.putStaging, setPage_popFrame, page_popFrame,
          staging_popFrame]
        rfl
      · intro ln' c'
        rw [hc]
        exact get_set_writeContent s.page.staging ln ln' c c' n bytes

/-! ### FILL_LINES -/

/-- The lines of a range with a property and those without it make up the range. -/
theorem countP_lineRange (a b : Line) (p : Line → Bool) :
    (lineRange a b).countP p + (lineRange a b).countP (fun ln => !p ln) = b.val + 1 - a.val := by
  rw [← length_lineRange a b, List.length_eq_countP_add_countP p]
  simp

/-- Counting in a range is counting the page's lines that lie in it. -/
theorem countP_lineRange_eq (a b : Line) (p : Line → Bool) :
    (lineRange a b).countP p =
      allLines.countP fun ln => (decide (a.val ≤ ln.val) && decide (ln.val ≤ b.val)) && p ln := by
  rw [lineRange, List.countP_filter]
  refine List.countP_congr fun ln _ => ?_
  simp [and_comm]

/-- The page store once the lines from `a` to `b` that `who` owns have been filled (R40). -/
def State.ownedFilled (s : State) (who : Identity) (a b : Line) (byte : Byte) : PageStore :=
  { s.page with
    staging := ((lineRange a b).filter (s.owns who)).foldl (fun t ln => t.set ln (Table.fill byte))
      s.page.staging }

theorem staging_ownedFilled (s : State) (who : Identity) (a b ln : Line) (byte : Byte) :
    (s.ownedFilled who a b byte).staging.get ln =
      if (a ≤ ln ∧ ln ≤ b) ∧ s.owns who ln = true then Table.fill byte else s.staging ln := by
  simp only [State.ownedFilled, Table.get_foldl_set, List.mem_filter, mem_lineRange, State.staging]

section

variable (l : Link) (s : State) {f : Frame} {first last byte : Byte}

theorem serveFillLines_outOfRange (hp : f.payload = [first, last, byte])
    (h : 23 < last.toNat ∨ last.toNat < first.toNat) :
    serveFillLines l s f = .error .outOfRange := by
  simp only [serveFillLines, hp]
  by_cases hlast : 23 < last.toNat
  · rw [(lineOf_eq_none_iff last).2 hlast]
    cases lineOf first <;> rfl
  · by_cases hfirst : 23 < first.toNat
    · rw [(lineOf_eq_none_iff first).2 hfirst]
    · obtain ⟨a, ha⟩ := exists_line (Nat.le_of_not_lt hfirst)
      obtain ⟨b, hb⟩ := exists_line (Nat.le_of_not_lt hlast)
      have hab : ¬ a ≤ b := by rw [Fin.le_def]; omega
      simp only [lineOf_of_toNat ha, lineOf_of_toNat hb, if_neg hab]

theorem serveFillLines_inRange {a b : Line} (hp : f.payload = [first, last, byte])
    (ha : first.toNat = a.val) (hb : last.toNat = b.val) (hab : a ≤ b) :
    serveFillLines l s f =
      .ok ((s.setPage (s.ownedFilled (linkIdentity l) a b byte)).sendReply l f.tag
        (.linesFilled (40 * (lineRange a b).countP (s.owns (linkIdentity l)))
          (40 * (lineRange a b).countP fun ln => !s.owns (linkIdentity l) ln))) := by
  have hskipped : (lineRange a b).length - (lineRange a b).countP (s.owns (linkIdentity l)) =
      (lineRange a b).countP fun ln => !s.owns (linkIdentity l) ln := by
    rw [length_lineRange, ← countP_lineRange a b (s.owns (linkIdentity l)), Nat.add_sub_cancel_left]
  simp only [serveFillLines, hp, lineOf_of_toNat ha, lineOf_of_toNat hb, if_pos hab,
    foldl_putStaging, ← List.countP_eq_length_filter, hskipped]
  rfl

end

/-- Settles O15: the owned lines of the range are filled in one change of the page, and the two counts of the
reply make up the range. -/
theorem fillLinesFillsOwnedLines : Obligations.FillLinesFillsOwnedLines := by
  intro l f s first last byte hp ht hit written skipped
  refine ⟨fun h => take_of_refused ht (serveFillLines_outOfRange l _ hp h), ?_⟩
  intro hle hlast
  obtain ⟨a, ha⟩ := exists_line (hle.trans hlast)
  obtain ⟨b, hb⟩ := exists_line hlast
  have hab : a ≤ b := by rw [Fin.le_def]; omega
  have hwritten : written = 40 * (lineRange a b).countP (s.owns (linkIdentity l)) := by
    rw [countP_lineRange_eq, ← ha, ← hb]
  have hskipped : skipped = 40 * (lineRange a b).countP (fun ln => !s.owns (linkIdentity l) ln) := by
    rw [countP_lineRange_eq, ← ha, ← hb]
  refine ⟨s.ownedFilled (linkIdentity l) a b byte, take_of_served ht ?_, ?_, rfl, rfl, rfl, rfl, ?_⟩
  · rw [serveFillLines_inRange l _ hp ha hb hab, hwritten, hskipped, setPage_popFrame, owns_popFrame,
      State.ownedFilled, page_popFrame, owns_popFrame]
    rfl
  · have hcount := countP_lineRange a b (s.owns (linkIdentity l))
    omega
  · intro ln
    rw [staging_ownedFilled]
    simp [hit, ha, hb]

end Machine

end Sys2Proof
end

section
/-!
The drive calculator (R76 to R81): how the clamp of the width and the draw behave for every input, what one
computation answers in their terms, then the statement on a pin's width and draw.
-/

namespace Sys2Proof.Machine

/-! ### The clamp of R79 and the draw of R81 -/

section

variable {w : Int}

theorem clampWidth_of_lt (h : w < 150) : clampWidth w = 150 := by
  simp only [clampWidth, Config.widthLeast, Config.widthGreatest]; omega

theorem clampWidth_of_gt (h : 3000 < w) : clampWidth w = 3000 := by
  simp only [clampWidth, Config.widthLeast, Config.widthGreatest]; omega

theorem clampWidth_of_mem (hl : 150 ≤ w) (hg : w ≤ 3000) : clampWidth w = w := by
  simp only [clampWidth, Config.widthLeast, Config.widthGreatest]; omega

variable (w)

theorem le_clampWidth : 150 ≤ clampWidth w := le_max_left _ _

theorem clampWidth_le : clampWidth w ≤ 3000 := max_le (by decide) (min_le_left _ _)

theorem clampWidth_ne_self_iff : w ≠ clampWidth w ↔ w < 150 ∨ 3000 < w := by
  constructor
  · intro hne
    by_contra hout
    exact hne (clampWidth_of_mem (by omega) (by omega)).symm
  · rintro (hlow | hhigh)
    · rw [clampWidth_of_lt hlow]; omega
    · rw [clampWidth_of_gt hhigh]; omega

end

/-- The draw is the least number of charge units whose 400 µs steps cover the width. -/
theorem drawOf_le_iff (w n : Nat) : drawOf w ≤ n ↔ w ≤ 400 * n := by
  unfold drawOf; omega

/-! ### One computation -/

section

variable (i : DriveInput)

/-- The clamped width is positive, so its conversion to a natural number loses nothing. -/
theorem computeDrive_width : ((computeDrive i).width : Int) = clampWidth (trimmedWidth i) :=
  Int.toNat_of_nonneg ((by decide : (0 : Int) ≤ 150).trans (le_clampWidth _))

theorem computeDrive_draw : (computeDrive i).draw = drawOf (computeDrive i).width := rfl

theorem computeDrive_clamped_iff :
    (computeDrive i).clamped = true ↔ trimmedWidth i < 150 ∨ 3000 < trimmedWidth i :=
  bne_iff_ne.trans (clampWidth_ne_self_iff _)

theorem le_computeDrive_width : 150 ≤ (computeDrive i).width := by
  have h := le_clampWidth (trimmedWidth i)
  rw [← computeDrive_width] at h
  exact_mod_cast h

theorem computeDrive_width_le : (computeDrive i).width ≤ 3000 := by
  have h := clampWidth_le (trimmedWidth i)
  rw [← computeDrive_width] at h
  exact_mod_cast h

/-- A width above 0 has a draw of at least one unit. -/
theorem one_le_computeDrive_draw : 1 ≤ (computeDrive i).draw := by
  have hwidth := le_computeDrive_width i
  have hcover := drawOf_le_iff (computeDrive i).width 0
  rw [computeDrive_draw]
  omega

/-- 3000 µs are covered by 8 units (R81). -/
theorem computeDrive_draw_le : (computeDrive i).draw ≤ 8 :=
  (drawOf_le_iff _ 8).2 ((computeDrive_width_le i).trans (by decide))

end

/-- Settles O50: the numbers the statement writes out are W1 of the calculator, whose clamp and draw the lemmas
above give case by case. -/
theorem widthAndDrawOfAPin : Obligations.WidthAndDrawOfAPin := by
  intro i adjust n d w1 w draw
  have hadjust : adjust = classAdjust i.widthClass i.classStep := by
    cases hclass : i.widthClass <;> simp only [adjust, hclass, classAdjust]
  have hw1 : w1 = trimmedWidth i := by
    simp only [w1, n, d, hadjust]
    rfl
  have hwidth : (w : Int) = clampWidth w1 := hw1 ▸ computeDrive_width i
  have hcover (m : Nat) : draw ≤ m ↔ w ≤ 400 * m := drawOf_le_iff w m
  have hpos : 1 ≤ draw := one_le_computeDrive_draw i
  refine ⟨fun hlow => ?_, fun hhigh => ?_, fun hl hg => ?_, le_computeDrive_width i,
    computeDrive_width_le i, hw1 ▸ computeDrive_clamped_iff i, ?_, (hcover draw).1 le_rfl, hpos,
    computeDrive_draw_le i⟩
  · exact_mod_cast hwidth.trans (clampWidth_of_lt hlow)
  · exact_mod_cast hwidth.trans (clampWidth_of_gt hhigh)
  · exact hwidth.trans (clampWidth_of_mem hl hg)
  · exact not_le.1 fun hle => absurd ((hcover (draw - 1)).2 hle) (by omega)

end Sys2Proof.Machine
end

section
/-!
The reading of the fault map: FAULT_LIST (R136). First the page of the map that a reply carries, then the service
in its cases, then the statement.
-/

namespace Sys2Proof.Machine

@[simp] theorem health_popFrame (s : State) (l : Link) : (s.popFrame l).health = s.health := by
  cases l <;> rfl

/-! ### One page of the map -/

/-- The entries one FAULT_LIST reply carries: in map order from the start index on, up to a page. -/
def faultPage (map : List FaultEntry) (start : Nat) : List FaultEntry :=
  (map.drop start).take Config.faultListPage

theorem length_faultPage (map : List FaultEntry) (start : Nat) :
    (faultPage map start).length = min 24 (map.length - start) := by
  rw [faultPage, List.length_take, List.length_drop, Config.faultListPage]

theorem getElem?_faultPage (map : List FaultEntry) (start : Nat) {i : Nat}
    (h : i < (faultPage map start).length) : (faultPage map start)[i]? = map[start + i]? := by
  have hi : i < Config.faultListPage := by
    rw [length_faultPage] at h
    exact h.trans_le (min_le_left _ _)
  rw [faultPage, List.getElem?_take_of_lt hi, List.getElem?_drop]

/-! ### FAULT_LIST -/

section

variable (l : Link) (s : State) {f : Frame} {start : Byte}

theorem serveFaultList_outOfRange (hp : f.payload = [start]) (h : 63 < start.toNat) :
    serveFaultList l s f = .error .outOfRange := by
  have hbeyond : ¬ start.toNat < Config.faultMapCapacity := not_lt.2 h
  simp only [serveFaultList, hp, if_neg hbeyond]

theorem serveFaultList_inRange (hp : f.payload = [start]) (h : start.toNat ≤ 63) :
    serveFaultList l s f =
      .ok (s.sendReply l f.tag
        (.faults s.health.faultMap.length start.toNat (faultPage s.health.faultMap start.toNat))) := by
  have hwithin : start.toNat < Config.faultMapCapacity := Nat.lt_succ_of_le h
  simp only [serveFaultList, hp, if_pos hwithin, faultPage]

end

/-- Settles O10: the taking of the frame leaves the map as it is, so the page shown is that of the map as it
stands when the request is taken. -/
theorem faultListShowsTheMapFromAnIndex : Obligations.FaultListShowsTheMapFromAnIndex := by
  intro l f s start hp ht
  refine ⟨fun h => take_of_refused ht (serveFaultList_outOfRange l _ hp h), fun h => ?_⟩
  have hserve := serveFaultList_inRange l (s.popFrame l) hp h
  rw [health_popFrame] at hserve
  exact ⟨faultPage s.health.faultMap start.toNat, take_of_served ht hserve,
    length_faultPage _ _, fun _ hi => getElem?_faultPage _ _ hi⟩

end Sys2Proof.Machine
end

section
/-!
The requests on a link that only read a setting or an image: GET (R171, R172) and READ_IMAGE (R168). For each first
what its number names, then the service in its cases, then the statement.
-/

namespace Sys2Proof.Machine

@[simp] theorem settings_popFrame (s : State) (l : Link) : (s.popFrame l).settings = s.settings := by
  cases l <;> rfl

/-! ### The settings an id names -/

/-- A setting that is on or off is shown as 1 or 0. -/
theorem boolToNat_eq_ite (b : Bool) : b.toNat = if b then 1 else 0 := by
  cases b <;> rfl

section

variable (x : Settings)

theorem settingNumber_resetPolicy :
    settingNumber x 14 = some (if x.resetPolicy = .blank then 1 else 0) := by
  cases h : x.resetPolicy <;> simp [settingNumber, h]

theorem settingNumber_eq_none_iff (id : Nat) : settingNumber x id = none ↔ id = 0 ∨ 14 < id := by
  unfold settingNumber
  split
  case h_15 => grind
  all_goals simp

theorem settingTable_eq_none_iff (id : Nat) : settingTable x id = none ↔ id ≠ 15 ∧ id ≠ 16 := by
  unfold settingTable
  split
  case h_3 => grind
  all_goals simp

end

/-! ### GET -/

section

variable (l : Link) (s : State) {f : Frame} {id : Byte}

theorem serveGet_number {v : Nat} (hp : f.payload = [id])
    (hv : settingNumber s.settings id.toNat = some v) :
    serveGet l s f = .ok (s.sendReply l f.tag (.settingValue id.toNat v)) := by
  simp only [serveGet, hp, hv]

/-- The class tables are looked up once the id has turned out to be none of 1 to 14. -/
theorem serveGet_table {t : Table WidthClass 16} (hp : f.payload = [id])
    (ht : settingTable s.settings id.toNat = some t) :
    serveGet l s f = .ok (s.sendReply l f.tag (.settingTable id.toNat t)) := by
  have hnumber : settingNumber s.settings id.toNat = none := by
    have hsome := (settingTable_eq_none_iff s.settings id.toNat).not.1 (by simp [ht])
    rw [settingNumber_eq_none_iff]
    omega
  simp only [serveGet, hp, hnumber, ht]

theorem serveGet_outOfRange (hp : f.payload = [id]) (h : id.toNat = 0 ∨ 16 < id.toNat) :
    serveGet l s f = .error .outOfRange := by
  have hnumber := (settingNumber_eq_none_iff s.settings id.toNat).2 (by omega)
  have htable := (settingTable_eq_none_iff s.settings id.toNat).2 (by omega)
  simp only [serveGet, hp, hnumber, htable]

end

/-- Settles O8: the taking of the frame leaves the settings as they are, so the service reads the working ones; an
id names a number, or a class table, or nothing. -/
theorem getShowsTheWorkingSetting : Obligations.GetShowsTheWorkingSetting := by
  intro l f s id hp ht shows lists
  have shows_of_number (n v : Nat) (hv : settingNumber s.settings n = some v) : shows n v := by
    rintro rfl
    exact take_of_served ht (serveGet_number l _ hp (by rwa [settings_popFrame]))
  have lists_of_table (n : Nat) (t : Table WidthClass 16)
      (htable : settingTable s.settings n = some t) : lists n t := by
    rintro rfl
    exact take_of_served ht (serveGet_table l _ hp (by rwa [settings_popFrame]))
  exact ⟨fun h => take_of_refused ht (serveGet_outOfRange l _ hp h),
    shows_of_number 1 _ rfl, shows_of_number 2 _ rfl, shows_of_number 3 _ rfl,
    shows_of_number 4 _ rfl, shows_of_number 5 _ rfl,
    shows_of_number 6 _ (congrArg some (boolToNat_eq_ite _)),
    shows_of_number 7 _ (congrArg some (boolToNat_eq_ite _)),
    shows_of_number 8 _ rfl, shows_of_number 9 _ rfl, shows_of_number 10 _ rfl,
    shows_of_number 11 _ rfl, shows_of_number 12 _ rfl,
    shows_of_number 13 _ (congrArg some (boolToNat_eq_ite _)),
    shows_of_number 14 _ (settingNumber_resetPolicy _),
    lists_of_table 15 _ rfl, lists_of_table 16 _ rfl⟩

/-! ### READ_IMAGE -/

theorem imageOf_eq_none_iff (s : State) (code : Nat) : s.imageOf code = none ↔ 2 < code := by
  unfold State.imageOf
  split
  case h_4 => grind
  all_goals simp

@[simp] theorem imageOf_popFrame (s : State) (l : Link) (code : Nat) :
    (s.popFrame l).imageOf code = s.imageOf code := by
  simp only [State.imageOf, page_popFrame]

section

variable (l : Link) (s : State) {f : Frame} {code line : Byte}

theorem serveReadImage_outOfRange (hp : f.payload = [code, line])
    (h : 2 < code.toNat ∨ 23 < line.toNat) : serveReadImage l s f = .error .outOfRange := by
  simp only [serveReadImage, hp]
  rcases h with h | h
  · rw [(imageOf_eq_none_iff s code.toNat).2 h]
  · rw [(lineOf_eq_none_iff line).2 h]
    cases s.imageOf code.toNat <;> rfl

theorem serveReadImage_inRange {image : Image} {ln : Line} (hp : f.payload = [code, line])
    (hcode : s.imageOf code.toNat = some image) (hline : line.toNat = ln.val) :
    serveReadImage l s f =
      .ok (s.sendReply l f.tag (.image code.toNat ln (image.get ln))) := by
  simp only [serveReadImage, hp, hcode, lineOf_of_toNat hline]

end

/-- Settles O9: the taking of the frame leaves the page as it is, so the line shown is that of the image as it
stands when the request is taken. -/
theorem readImageReturnsTheLine : Obligations.ReadImageReturnsTheLine := by
  intro l f s code line hp ht
  refine ⟨fun h => take_of_refused ht (serveReadImage_outOfRange l _ hp h), fun ln hline => ?_⟩
  have answers (n : Nat) (image : Image) (himage : s.imageOf n = some image)
      (hcode : code.toNat = n) :
      exec (.readImage l) s = .next (s.answered l f (.image n ln (image.get ln))) := by
    subst hcode
    exact take_of_served ht
      (serveReadImage_inRange l _ hp (by rwa [imageOf_popFrame]) hline)
  exact ⟨answers 0 _ rfl, answers 1 _ rfl, answers 2 _ rfl⟩

end Sys2Proof.Machine
end

section
/-!
The stroke former (R83, R86 to R92): what one step of the walk keeps, what the walk has made of the candidates it
has met, then the statements on a formed stroke and on its firing.
-/

namespace Sys2Proof.Machine

/-! ### The walk (R87 to R89) -/

theorem picksDraw_append (ks : List Pick) (k : Pick) : picksDraw (ks ++ [k]) = picksDraw ks + k.drive.draw := by
  simp [picksDraw]

/-- The pins taken that lie before a pin in the order of the walk. -/
def takenBefore (ks : List Pick) (p : LinePin) : List Pick := ks.filter fun k => decide (k.pin < p)

/-- Why the walk leaves out the pin `p`, where it has taken `taken` before it: adjacent, or no room, or no charge. -/
def State.leavesOut (s : State) (c : Current) (taken : List Pick) (p : LinePin) : Prop :=
  (∃ k ∈ taken, adjacent k.pin p = true) ∨ taken.length = 64 ∨
    s.budget < picksDraw taken + (s.pinDrive c (taken.map (·.pin)) p).draw

/-- What the walk has made of the candidates `met` so far. -/
structure WalkOk (s : State) (c : Current) (met : List LinePin) (ks : List Pick) : Prop where
  few : ks.length ≤ 64
  sorted : (ks.map (·.pin)).Pairwise (· < ·)
  apart : ks.Pairwise fun a b => adjacent a.pin b.pin = false
  mem : ∀ k ∈ ks, k.pin ∈ met
  fits : picksDraw ks ≤ s.budget
  drives : ∀ before k after, ks = before ++ k :: after →
    k.drive = s.pinDrive c (before.map (·.pin)) k.pin
  left : ∀ p ∈ met, (∀ k ∈ ks, k.pin ≠ p) → s.leavesOut c (takenBefore ks p) p

theorem WalkOk.nil (s : State) (c : Current) : WalkOk s c [] [] where
  few := by simp
  sorted := List.Pairwise.nil
  apart := List.Pairwise.nil
  mem := by simp
  fits := by simp [picksDraw]
  drives := by simp
  left := by simp

theorem takenBefore_of_lt {ks : List Pick} {p : LinePin} (h : ∀ k ∈ ks, k.pin < p) : takenBefore ks p = ks := by
  simpa [takenBefore] using h

theorem takenBefore_append (ks : List Pick) {k : Pick} {p : LinePin} (h : p ≤ k.pin) :
    takenBefore (ks ++ [k]) p = takenBefore ks p := by
  have hk : ¬ k.pin < p := not_lt.2 h
  simp [takenBefore, List.filter_append, hk]

section

variable {s : State} {c : Current} {met : List LinePin} {ks : List Pick} {p : LinePin}

/-- A candidate behind all those met that the walk leaves out. -/
theorem WalkOk.leave (h : WalkOk s c met ks) (behind : ∀ q ∈ met, q < p) (why : s.leavesOut c ks p) :
    WalkOk s c (met ++ [p]) ks where
  few := h.few
  sorted := h.sorted
  apart := h.apart
  mem k hk := List.mem_append_left _ (h.mem k hk)
  fits := h.fits
  drives := h.drives
  left q hq hne := by
    rcases List.mem_append.1 hq with hq | hq
    · exact h.left q hq hne
    · rw [List.mem_singleton.1 hq, takenBefore_of_lt fun k hk => behind _ (h.mem k hk)]
      exact why

/-- A candidate behind all those met that the walk takes. -/
theorem WalkOk.take (h : WalkOk s c met ks) (behind : ∀ q ∈ met, q < p)
    (free : ∀ k ∈ ks, adjacent k.pin p = false) (room : ks.length < 64)
    (charge : picksDraw ks + (s.pinDrive c (ks.map (·.pin)) p).draw ≤ s.budget) :
    WalkOk s c (met ++ [p]) (ks ++ [⟨p, s.pinDrive c (ks.map (·.pin)) p⟩]) where
  few := by simpa using room
  sorted := by
    rw [List.map_append, List.pairwise_append]
    refine ⟨h.sorted, by simp, ?_⟩
    intro a ha b hb
    obtain ⟨k, hk, rfl⟩ := List.mem_map.1 ha
    obtain rfl : b = p := by simpa using hb
    exact behind _ (h.mem k hk)
  apart := by
    rw [List.pairwise_append]
    refine ⟨h.apart, by simp, ?_⟩
    intro a ha b hb
    obtain rfl := List.mem_singleton.1 hb
    exact free a ha
  mem k hk := by
    rcases List.mem_append.1 hk with hk | hk
    · exact List.mem_append_left _ (h.mem k hk)
    · rw [List.mem_singleton.1 hk]; simp
  fits := by rw [picksDraw_append]; exact charge
  drives before k after he := by
    rcases List.eq_nil_or_concat after with rfl | ⟨rest, last, rfl⟩
    · obtain ⟨rfl, hk⟩ := List.append_inj' he rfl
      obtain rfl := List.singleton_inj.1 hk
      rfl
    · rw [List.concat_eq_append, ← List.cons_append, ← List.append_assoc] at he
      exact h.drives before k rest (List.append_inj' he rfl).1
  left q hq hne := by
    rcases List.mem_append.1 hq with hq | hq
    · rw [takenBefore_append ks (behind q hq).le]
      exact h.left q hq fun k hk => hne k (List.mem_append_left _ hk)
    · exact absurd (List.mem_singleton.1 hq).symm
        (hne ⟨p, _⟩ (List.mem_append_right _ (List.mem_singleton_self _)))

/-- The walk meets one candidate behind all those met. -/
theorem WalkOk.walkStep (h : WalkOk s c met ks) (behind : ∀ q ∈ met, q < p) :
    WalkOk s c (met ++ [p]) (s.walkStep c ks p) := by
  unfold State.walkStep
  split
  · rename_i hadj
    exact h.leave behind (Or.inl (by simpa using hadj))
  · rename_i hadj
    dsimp only
    split
    · rename_i hfit
      exact h.take behind (by simpa using hadj) hfit.1 hfit.2
    · rename_i hfit
      refine h.leave behind (Or.inr ?_)
      have hfew := h.few
      unfold Config.strokePinLimit at hfit
      omega

theorem WalkOk.foldl (ps : List LinePin) : ∀ {met : List LinePin} {ks : List Pick}, WalkOk s c met ks →
    (met ++ ps).Pairwise (· < ·) → WalkOk s c (met ++ ps) (ps.foldl (s.walkStep c) ks) := by
  induction ps with
  | nil => intro met ks h _; simpa using h
  | cons p ps ih =>
    intro met ks h hsorted
    have hcons : met ++ p :: ps = (met ++ [p]) ++ ps := by simp
    have behind : ∀ q ∈ met, q < p := fun q hq =>
      (List.pairwise_append.1 hsorted).2.2 q hq p (by simp)
    rw [hcons] at hsorted ⊢
    exact ih (h.walkStep behind) hsorted

end

theorem candidates_sorted (s : State) (c : Current) : (s.candidates c).Pairwise (· < ·) :=
  (List.pairwise_lt_finRange 320).filter _

theorem mem_candidates (s : State) (c : Current) (p : LinePin) : p ∈ s.candidates c ↔ s.mayDrive c p := by
  rw [← candidate_iff, State.candidates, List.mem_filter]
  simp [mem_allPins]

/-- The formed stroke is what the walk makes of all candidates. -/
theorem walkOk_formStroke (s : State) (c : Current) : WalkOk s c (s.candidates c) (s.formStroke c) :=
  (WalkOk.nil s c).foldl (s.candidates c) (candidates_sorted s c)

/-- Every drive in a formed stroke is an answer of the drive calculator. -/
theorem exists_pinDrive_of_mem_formStroke {s : State} {c : Current} {k : Pick} (h : k ∈ s.formStroke c) :
    ∃ taken, k.drive = s.pinDrive c taken k.pin := by
  obtain ⟨before, after, he⟩ := List.append_of_mem h
  exact ⟨_, (walkOk_formStroke s c).drives before k after he⟩

/-- What has been taken stays taken, so a stroke of at least one pin forms where the first candidate fits. -/
theorem walkStep_ne_nil (s : State) (c : Current) {ks : List Pick} (p : LinePin) (h : ks ≠ []) :
    s.walkStep c ks p ≠ [] := by
  unfold State.walkStep
  dsimp only
  split
  · exact h
  · split
    · simp
    · exact h

theorem foldl_walkStep_ne_nil (s : State) (c : Current) (ps : List LinePin) :
    ∀ {ks : List Pick}, ks ≠ [] → ps.foldl (s.walkStep c) ks ≠ [] := by
  induction ps with
  | nil => exact fun h => h
  | cons p ps ih => exact fun h => ih (walkStep_ne_nil s c p h)

theorem formStroke_ne_nil (s : State) (c : Current) (some : s.hasCandidate c = true)
    (charge : s.settings.qFloor + 16 ≤ s.reservoir.q) : s.formStroke c ≠ [] := by
  obtain ⟨p, hp⟩ := (hasCandidate_iff s c).1 some
  have hne : s.candidates c ≠ [] := List.ne_nil_of_mem ((mem_candidates s c p).2 hp)
  obtain ⟨q, rest, hq⟩ := List.exists_cons_of_ne_nil hne
  have hdraw : (s.pinDrive c [] q).draw ≤ 8 := computeDrive_draw_le _
  have hfirst : s.walkStep c [] q = [⟨q, s.pinDrive c [] q⟩] := by
    have hfit : picksDraw [] + (s.pinDrive c [] q).draw ≤ s.budget := by
      simp only [picksDraw, State.budget, List.map_nil, List.sum_nil]
      omega
    simp [State.walkStep, Config.strokePinLimit, hfit]
  rw [State.formStroke, hq, List.foldl_cons, hfirst]
  exact foldl_walkStep_ne_nil s c rest (by simp)

theorem pinBank_eq_ite (l : Line) (p : LinePin) :
    pinBank l p = if (cellOf p).val < 20 then firstBank l else secondBank l := by
  have hcell := (cellOf p).isLt
  split <;> apply Fin.ext <;> simp only [pinBank, bankOf, firstBank, secondBank] <;> omega

/-- Settles O52: the walk's invariant, read at the last candidate. -/
theorem formedStrokeKeepsItsLimits : Obligations.FormedStrokeKeepsItsLimits := by
  intro s c ks
  have h := walkOk_formStroke s c
  have hdrive (taken : List LinePin) (p : LinePin) : computeDrive
      { base := if c.round.phase = .raise then s.settings.baseRaiseUs else s.settings.baseLowerUs
        widthClass := (if c.round.phase = .raise then s.settings.raiseTable else s.settings.lowerTable).get
          (s.patternIndex c taken p)
        classStep := s.settings.classStepPct
        reading := (s.modules.records.get (moduleOf c.line)).temperature.getD 25
        attempt := (c.round.pins.get p).attempts
        q := s.reservoir.q
        trim := s.health.trims.get
          (if (cellOf p).val < 20 then firstBank c.line else secondBank c.line)
        trimStep := s.settings.trimStepUs } = s.pinDrive c taken p := by
    rw [← pinBank_eq_ite]
    unfold State.pinDrive State.driveInput State.heldReading
    cases c.round.phase <;> rfl
  refine ⟨h.few, h.sorted, h.apart, ?_, h.fits, ?_, ?_, formStroke_ne_nil s c⟩
  · intro k hk
    obtain ⟨h1, h2, h3, h4, h5⟩ := (mem_candidates s c _).1 (h.mem k hk)
    obtain ⟨taken, hd⟩ := exists_pinDrive_of_mem_formStroke hk
    rw [hd]
    exact ⟨h1, h2, h3, h4, h5, le_computeDrive_width _, computeDrive_width_le _,
      one_le_computeDrive_draw _, computeDrive_draw_le _⟩
  · intro before k after he
    exact (h.drives before k after he).trans (hdrive _ _).symm
  · intro p hp hne
    have hleft := h.left p ((mem_candidates s c p).2 hp) hne
    dsimp only
    rw [hdrive]
    exact hleft

/-! ### Firing (R90 to R92) -/

theorem le_foldl_max (ws : List Nat) : ∀ a : Nat, a ≤ ws.foldl max a ∧ ∀ w ∈ ws, w ≤ ws.foldl max a := by
  induction ws with
  | nil => simp
  | cons w ws ih =>
    intro a
    obtain ⟨hstart, hmem⟩ := ih (max a w)
    refine ⟨(le_max_left a w).trans hstart, fun v hv => ?_⟩
    rcases List.mem_cons.1 hv with rfl | hv
    · exact (le_max_right a v).trans hstart
    · exact hmem v hv

theorem foldl_max_mem (ws : List Nat) : ∀ a : Nat, ws.foldl max a = a ∨ ws.foldl max a ∈ ws := by
  induction ws with
  | nil => simp
  | cons w ws ih =>
    intro a
    rw [List.foldl_cons]
    rcases ih (max a w) with h | h
    · rcases max_choice a w with hm | hm
      · left; rw [h, hm]
      · right; rw [h, hm]; simp
    · exact Or.inr (List.mem_cons_of_mem _ h)

/-- The greatest width of a list that is not empty is one of it. -/
theorem foldl_max_mem_of_ne_nil {ws : List Nat} (h : ws ≠ []) : ws.foldl max 0 ∈ ws := by
  obtain ⟨w, rest, rfl⟩ := List.exists_cons_of_ne_nil h
  rw [List.foldl_cons, Nat.zero_max]
  rcases foldl_max_mem rest w with hw | hw
  · rw [hw]; simp
  · exact List.mem_cons_of_mem _ hw

theorem get_pins_fire (r : Round) (pins : List LinePin) (p : LinePin) : (r.fire pins).pins.get p =
    if p ∈ pins then ⟨(r.pins.get p).attempts + 1, true, true, true, (r.pins.get p).retargeted⟩
    else r.pins.get p := by
  simp only [Round.fire, Table.get_tab, List.contains_iff_mem]

theorem get_raiseWear (wear : Table Nat 960) (l : Line) (ks : List Pick) (i : Fin 960) :
    (raiseWear wear l (ks.map (·.pin))).get i = min 4294967295 (wear.get i +
      ks.countP fun k => decide (40 * l.val + (cellOf k.pin).val = i.val)) := by
  rw [raiseWear, Table.get_tab, List.countP_map]
  congr 2
  refine List.countP_congr fun k _ => ?_
  simp [cellIndex, Fin.ext_iff]

/-- Counting the clamps of a stroke touches the refresh record and the flags only. -/
theorem countClamps_eq (s : State) (n : Nat) : s.countClamps n =
    (s.setEngine (s.countClamps n).engine).setPorts (s.countClamps n).ports := by
  unfold State.countClamps
  split <;> rfl

theorem engine_countClamps (s : State) (n : Nat) : (s.countClamps n).engine =
    { s.engine with refresh := s.engine.refresh.map fun r => { r with clampCount := r.clampCount + n } } := by
  unfold State.countClamps
  split
  · rename_i h
    subst h
    simp
  · rfl

theorem countClamps_zero (s : State) : s.countClamps 0 = s := rfl

theorem ports_countClamps {s : State} {n : Nat} (h : n ≠ 0) : (s.countClamps n).ports =
    { s.ports with
      station := setDriveLimit s.ports.station
      patron := if s.ports.presence then setDriveLimit s.ports.patron else s.ports.patron } := by
  unfold State.countClamps
  rw [if_neg h]
  rfl

theorem clampedPicks_eq_zero_iff (ks : List Pick) : clampedPicks ks = 0 ↔ ∀ k ∈ ks, k.drive.clamped = false := by
  simp [clampedPicks, List.countP_eq_zero]

/-- A firing, block by block. -/
theorem fire_eq (s : State) (c : Current) (ks : List Pick) : s.fire c ks =
    ((((((s.setReservoir (s.reservoir.give (picksDraw ks))).setPage
      { s.page with struck := s.page.struck.set c.line true }).setHealth
      { s.health with wear := raiseWear s.health.wear c.line (ks.map (·.pin)) }).setPorts
      (s.countClamps (clampedPicks ks)).ports).setModules
      { s.modules with operation := some (.stroke (strokeRecord c ks)) }).setEngine
      { s.engine with
        state := .striking
        current := some ⟨c.line, c.round.fire (ks.map (·.pin))⟩
        refresh := s.engine.refresh.map fun r =>
          { r with clampCount := r.clampCount + clampedPicks ks } }) := by
  unfold State.fire
  dsimp only
  rw [countClamps_eq, engine_countClamps]
  unfold State.countClamps
  split <;> rfl

/-- Settles O53: the firing block by block, the longest width being one of the stroke's. -/
theorem firingCountsAndDrawsCharge : Obligations.FiringCountsAndDrawsCharge := by
  intro s c ks t
  have ht : t = _ := fire_eq s c ks
  rw [ht]
  refine ⟨rfl, ⟨strokeRecord c ks, rfl, rfl, rfl, rfl, rfl, rfl, ?_, ?_⟩, rfl,
    ⟨_, rfl, rfl, rfl, get_pins_fire c.round _⟩,
    get_raiseWear s.health.wear c.line ks, by simp, by simp, rfl, rfl, rfl, rfl, rfl, ?_, ?_⟩
  · intro k hk
    exact (le_foldl_max _ 0).2 _ (List.mem_map_of_mem hk)
  · intro hne
    obtain ⟨k, hk, hw⟩ := List.mem_map.1 (foldl_max_mem_of_ne_nil
      (ws := ks.map (·.drive.width)) (by simpa using hne))
    exact ⟨k, hk, hw⟩
  · intro hnone
    have hzero := (clampedPicks_eq_zero_iff ks).2 hnone
    rw [hzero]
    refine ⟨rfl, ?_⟩
    show s.engine.refresh.map _ = _
    simp
  · rintro r hr ⟨k, hk, hclamped⟩
    have hsome : clampedPicks ks ≠ 0 := fun h =>
      absurd ((clampedPicks_eq_zero_iff ks).1 h k hk) (by simp [hclamped])
    refine ⟨?_, ?_, ?_⟩
    · show s.engine.refresh.map _ = _
      rw [hr]
      rfl
    · show (s.countClamps (clampedPicks ks)).ports.station.flags.driveLimit = true
      rw [ports_countClamps hsome]
      rfl
    · show (s.countClamps (clampedPicks ks)).ports.patron.flags.driveLimit = _
      rw [ports_countClamps hsome]
      cases hp : s.ports.presence <;> rfl

end Sys2Proof.Machine
end

section
/-!
What the engine's operations are made of. `EngineMove` lists the single updates by which the refresh engine acts on
the state while it chooses, packs, closes, or answers a prompt; an `EngineRun` is a sequence of them. Each shared
operation is shown once to be a run; what a run keeps is then shown by going through the updates.
-/

namespace Sys2Proof.Machine

/-! ### Fields that a write to a port leaves alone -/

section

variable (s : State) (l : Link) (p : Port) (n : Notice)

@[simp] theorem setPort_pending : (s.setPort l p).pending = s.pending := by cases l <;> rfl
@[simp] theorem setPort_stage : (s.setPort l p).stage = s.stage := by cases l <;> rfl
@[simp] theorem setPort_page : (s.setPort l p).page = s.page := by cases l <;> rfl
@[simp] theorem setPort_panes : (s.setPort l p).panes = s.panes := by cases l <;> rfl
@[simp] theorem setPort_writer : (s.setPort l p).writer = s.writer := by cases l <;> rfl
@[simp] theorem setPort_zones : (s.setPort l p).zones = s.zones := by cases l <;> rfl
@[simp] theorem setPort_engine : (s.setPort l p).engine = s.engine := by cases l <;> rfl
@[simp] theorem setPort_modules : (s.setPort l p).modules = s.modules := by cases l <;> rfl
@[simp] theorem setPort_reservoir : (s.setPort l p).reservoir = s.reservoir := by cases l <;> rfl
@[simp] theorem setPort_health : (s.setPort l p).health = s.health := by cases l <;> rfl
@[simp] theorem setPort_store : (s.setPort l p).store = s.store := by cases l <;> rfl
@[simp] theorem setPort_settings : (s.setPort l p).settings = s.settings := by cases l <;> rfl
@[simp] theorem setPort_presence : (s.setPort l p).ports.presence = s.ports.presence := by
  cases l <;> rfl
@[simp] theorem setPort_resetWait : (s.setPort l p).ports.resetWait = s.ports.resetWait := by
  cases l <;> rfl

theorem setPort_eq_setPorts : s.setPort l p = s.setPorts (s.setPort l p).ports := by cases l <;> rfl

@[simp] theorem setPort_owns : (s.setPort l p).owns = s.owns := by cases l <;> rfl

@[simp] theorem setPort_lineModule : (s.setPort l p).lineModule = s.lineModule := by cases l <;> rfl

theorem notify_eq : s.notify l n =
    s.setPort l (if s.inService l then (s.port l).pushNotice n else s.port l) := by
  unfold State.notify
  split
  · rfl
  · rw [setPort_self]

end

/-! ### The updates -/

/-- What an update of the engine's own fields keeps, where the lines of `W` may be worked: lines in service join the
queue and the generation advances for LOCAL's commits alone, zones become stale only where they are guarded on a worked line,
and the CANCEL in flight loses at most its copy to a commit of LOCAL. -/
structure EngineShift (W : Line → Prop) (s : State) (x : Engine) : Prop where
  queue : ∀ l ∈ x.queue, l ∈ s.engine.queue ∨ (s.owns .localWriter l = true ∧ s.lineInService l = true)
  stale : ∀ z, x.stale.get z = true →
    s.engine.stale.get z = true ∨ (s.guarded z = true ∧ W (zoneLine z))
  cancelled : x.cancelled = s.engine.cancelled ∨
    ∃ w, s.engine.cancelled = some w ∧ s.owns .localWriter w.line = true
  generation : x.generation = s.engine.generation ∨ ∃ l, s.owns .localWriter l = true
  returns : x.returnList = s.engine.returnList
  waiting : x.sweepWaiting = s.engine.sweepWaiting

/-- One update by which the engine acts, where the lines of `W` may be worked. -/
inductive EngineMove (W : Line → Prop) : State → State → Prop
  | engine (s : State) (x : Engine) (h : EngineShift W s x) : EngineMove W s (s.setEngine x)
  | struck (s : State) (struck : LineSet) : EngineMove W s (s.setPage { s.page with struck := struck })
  | staging (s : State) (l : Line) (c : Content) (h : s.owns .localWriter l = true) :
      EngineMove W s (s.putStaging l c)
  | target (s : State) (l : Line) (c : Content) (h : s.owns .localWriter l = true) :
      EngineMove W s (s.putTarget l c)
  | writer (s : State) (x : Writer)
      (h : ∀ l, x.lastUnsettled.get l = true → s.writer.lastUnsettled.get l = true ∨ W l) :
      EngineMove W s (s.setWriter x)
  | operation (s : State) (op : Option Operation) : EngineMove W s (s.setOperation op)
  | notice (s : State) (l : Link) (n : Notice) (h : s.inService l = true) :
      EngineMove W s (s.setPort l ((s.port l).pushNotice n))
  | driveLimit (s : State) : EngineMove W s (s.flagBoth setDriveLimit)
  | mapFull (s : State) : EngineMove W s (s.flagBoth setFaultmapFull)
  | entry (s : State) (e : FaultEntry) (room : s.health.faultMap.length < Config.faultMapCapacity)
      (new : faultPin e ∉ s.health.faultMap.map faultPin) :
      EngineMove W s (s.setHealth { s.health with faultMap := s.health.faultMap ++ [e] })
  | wear (s : State) (l : Line) (pins : List LinePin) :
      EngineMove W s (s.setHealth { s.health with wear := raiseWear s.health.wear l pins })
  | idle (s : State) (n : Option Nat) : EngineMove W s (s.setReservoir { s.reservoir with idle := n })
  | opens (s : State) : EngineMove W s (s.setReservoir s.reservoir.refreshOpens)
  | draws (s : State) (c : Current) (ready : s.settings.qReady ≤ s.reservoir.q)
      (some : s.hasCandidate c = true) :
      EngineMove W s (s.setReservoir (s.reservoir.give (picksDraw (s.formStroke c))))

/-- A sequence of updates by which the engine acts. -/
abbrev EngineRun (W : Line → Prop) : State → State → Prop := Relation.ReflTransGen (EngineMove W)

/-- An update that keeps the queue, the stale zones, the CANCEL in flight, the generation and the waiting lines. -/
theorem EngineShift.of_eq {W : Line → Prop} {s : State} {x : Engine} (queue : x.queue = s.engine.queue)
    (stale : x.stale = s.engine.stale) (cancelled : x.cancelled = s.engine.cancelled)
    (generation : x.generation = s.engine.generation) (returns : x.returnList = s.engine.returnList)
    (waiting : x.sweepWaiting = s.engine.sweepWaiting) : EngineShift W s x where
  queue _ h := Or.inl (queue ▸ h)
  stale _ h := Or.inl (stale ▸ h)
  cancelled := Or.inl cancelled
  generation := Or.inl generation
  returns := returns
  waiting := waiting

/-- A property of states that every update keeps is kept by a run. -/
theorem EngineRun.keeps {W : Line → Prop} {P : State → Prop} {s t : State}
    (move : ∀ s t, EngineMove W s t → P s → P t) (h : EngineRun W s t) (hs : P s) : P t := by
  induction h with
  | refl => exact hs
  | tail _ hstep ih => exact move _ _ hstep ih

/-! ### What every update keeps -/

theorem EngineMove.same {W : Line → Prop} {s t : State} (h : EngineMove W s t) : SameBesideEngine s t := by
  cases h with
  | engine x _ => exact SameBesideEngine.setEngine s _
  | struck struck => exact SameBesideEngine.setPage s _
  | staging l c _ => exact SameBesideEngine.putStaging s l c
  | target l c _ => exact SameBesideEngine.putTarget s l c
  | writer x _ => exact SameBesideEngine.setWriter s _
  | operation op => exact SameBesideEngine.setOperation s _
  | notice l n _ => exact SameBesideEngine.setPort s l _
  | driveLimit => exact SameBesideEngine.flagBoth s _
  | mapFull => exact SameBesideEngine.flagBoth s _
  | entry e _ _ => exact SameBesideEngine.setHealth s _ rfl
  | wear l pins => exact SameBesideEngine.setHealth s _ rfl
  | idle n => exact SameBesideEngine.setReservoir s _
  | opens => exact SameBesideEngine.setReservoir s _
  | draws c _ _ => exact SameBesideEngine.setReservoir s _

theorem EngineRun.same {W : Line → Prop} {s t : State} (h : EngineRun W s t) : SameBesideEngine s t :=
  h.keeps (P := SameBesideEngine s) (fun _ _ hm hs => hs.trans hm.same) (SameBesideEngine.refl s)

theorem EngineMove.stage {W : Line → Prop} {s t : State} (h : EngineMove W s t) : t.stage = s.stage := by
  cases h <;> simp [State.putStaging, State.putTarget, State.setOperation, State.flagBoth]

theorem EngineRun.stage {W : Line → Prop} {s t : State} (h : EngineRun W s t) : t.stage = s.stage :=
  h.keeps (P := fun t => t.stage = s.stage) (fun _ _ hm hs => hm.stage.trans hs) rfl

theorem EngineRun.owns {W : Line → Prop} {s t : State} (h : EngineRun W s t) : t.owns = s.owns := by
  unfold State.owns
  rw [h.same.panes]

theorem EngineRun.guarded {W : Line → Prop} {s t : State} (h : EngineRun W s t) : t.guarded = s.guarded := by
  unfold State.guarded
  rw [h.same.settings, h.same.zones]

theorem EngineRun.lineInService {W : Line → Prop} {s t : State} (h : EngineRun W s t) :
    t.lineInService = s.lineInService := by
  unfold State.lineInService State.lineModule State.moduleState
  rw [h.same.records]

theorem EngineMove.shift {W : Line → Prop} {s t : State} (h : EngineMove W s t) :
    EngineShift W s t.engine := by
  cases h with
  | engine x hx => exact hx
  | notice l n _ => rw [setPort_engine]; exact .of_eq rfl rfl rfl rfl rfl rfl
  | _ => exact .of_eq rfl rfl rfl rfl rfl rfl

theorem EngineRun.shift {W : Line → Prop} {s t : State} (h : EngineRun W s t) :
    EngineShift W s t.engine := by
  induction h with
  | refl => exact .of_eq rfl rfl rfl rfl rfl rfl
  | @tail t u hrun hmove ih =>
    have hstep := hmove.shift
    have howns : t.owns = s.owns := EngineRun.owns hrun
    have hguard : t.guarded = s.guarded := EngineRun.guarded hrun
    have hservice : t.lineInService = s.lineInService := EngineRun.lineInService hrun
    constructor
    · intro l hl
      rcases hstep.queue l hl with hl | hl
      · exact ih.queue l hl
      · exact Or.inr (howns ▸ hservice ▸ hl)
    · intro z hz
      rcases hstep.stale z hz with hz | hz
      · exact ih.stale z hz
      · exact Or.inr (hguard ▸ hz)
    · rcases hstep.cancelled with hc | ⟨w, hw, hlocal⟩
      · rw [hc]; exact ih.cancelled
      · rcases ih.cancelled with hc | hc
        · exact Or.inr ⟨w, hc ▸ hw, howns ▸ hlocal⟩
        · exact Or.inr hc
    · rcases hstep.generation with hg | hg
      · rw [hg]; exact ih.generation
      · exact Or.inr (howns ▸ hg)
    · exact hstep.returns.trans ih.returns
    · exact hstep.waiting.trans ih.waiting

theorem EngineMove.sensed {W : Line → Prop} {s t : State} (h : EngineMove W s t) :
    t.page.sensed = s.page.sensed := by
  cases h <;> simp [State.putStaging, State.putTarget, State.setOperation, State.flagBoth]

theorem EngineRun.sensed {W : Line → Prop} {s t : State} (h : EngineRun W s t) :
    t.page.sensed = s.page.sensed :=
  h.keeps (P := fun t => t.page.sensed = s.page.sensed) (fun _ _ hm hs => hm.sensed.trans hs) rfl

theorem EngineMove.fresh {W : Line → Prop} {s t : State} (h : EngineMove W s t) : t.page.fresh = s.page.fresh := by
  cases h <;> simp [State.putStaging, State.putTarget, State.setOperation, State.flagBoth]

theorem EngineRun.fresh {W : Line → Prop} {s t : State} (h : EngineRun W s t) : t.page.fresh = s.page.fresh :=
  h.keeps (P := fun t => t.page.fresh = s.page.fresh) (fun _ _ hm hs => hm.fresh.trans hs) rfl

/-- Only LOCAL's lines are written in staging and target. -/
theorem EngineMove.images {W : Line → Prop} {s t : State} (h : EngineMove W s t) (l : Line)
    (other : s.owns .localWriter l = false) : t.staging l = s.staging l ∧ t.target l = s.target l := by
  have differs : ∀ k : Line, s.owns .localWriter k = true → k ≠ l := by
    rintro k hk rfl
    simp [hk] at other
  cases h with
  | staging k c hk => exact ⟨Table.get_set_other _ _ (differs k hk), rfl⟩
  | target k c hk => exact ⟨rfl, Table.get_set_other _ _ (differs k hk)⟩
  | _ => simp [State.staging, State.target, State.setOperation, State.flagBoth]

theorem EngineRun.images {W : Line → Prop} {s t : State} (h : EngineRun W s t) (l : Line)
    (other : s.owns .localWriter l = false) : t.staging l = s.staging l ∧ t.target l = s.target l := by
  induction h with
  | refl => exact ⟨rfl, rfl⟩
  | tail hrun hmove ih =>
    obtain ⟨h1, h2⟩ := hmove.images l (by rw [EngineRun.owns hrun]; exact other)
    exact ⟨h1.trans ih.1, h2.trans ih.2⟩

theorem EngineMove.lastUnsettled {W : Line → Prop} {s t : State} (h : EngineMove W s t) (l : Line)
    (ht : t.writer.lastUnsettled.get l = true) : s.writer.lastUnsettled.get l = true ∨ W l := by
  cases h with
  | writer x hx => exact hx l ht
  | notice k n _ => rw [setPort_writer] at ht; exact Or.inl ht
  | _ => exact Or.inl ht

theorem EngineRun.lastUnsettled {W : Line → Prop} {s t : State} (h : EngineRun W s t) (l : Line)
    (ht : t.writer.lastUnsettled.get l = true) : s.writer.lastUnsettled.get l = true ∨ W l := by
  induction h with
  | refl => exact Or.inl ht
  | tail _ hmove ih =>
    rcases hmove.lastUnsettled l ht with h | h
    · exact ih h
    · exact Or.inr h

/-! ### What a run keeps of the ports -/

section

variable (p : Port) (n : Notice)

theorem startSend_frames : (Port.startSend p).frames = p.frames := by
  unfold Port.startSend
  split <;> rfl

theorem startSend_receiver : (Port.startSend p).receiver = p.receiver := by
  unfold Port.startSend
  split <;> rfl

theorem startSend_lastRefusal : (Port.startSend p).lastRefusal = p.lastRefusal := by
  unfold Port.startSend
  split <;> rfl

theorem startSend_flags : (Port.startSend p).flags = p.flags := by
  unfold Port.startSend
  split <;> rfl

theorem pushNotice_frames : (p.pushNotice n).frames = p.frames := by
  unfold Port.pushNotice
  dsimp only
  rw [startSend_frames]
  dsimp only
  split <;> rfl

theorem pushNotice_receiver : (p.pushNotice n).receiver = p.receiver := by
  unfold Port.pushNotice
  dsimp only
  rw [startSend_receiver]
  dsimp only
  split <;> rfl

/-- Where the oldest message begins to be sent, each message still waits or is in sending. -/
theorem carries_startSend {p : Port} {m : Message} (h : p.carries m) : (Port.startSend p).carries m := by
  unfold Port.startSend
  split
  · rename_i first rest hs hq
    rcases h with h | h
    · rw [hq] at h
      rcases List.mem_cons.1 h with rfl | h
      · exact Or.inr rfl
      · exact Or.inl h
    · rw [hs] at h; cases h
  · exact h

theorem mem_dropOldestNotice {m : Message} (hm : isNotice m = false) :
    ∀ {q : List Message}, m ∈ q → m ∈ dropOldestNotice q
  | .notice k :: rest, h => by
      rcases List.mem_cons.1 h with rfl | h
      · cases hm
      · exact h
  | .reply t r :: rest, h => by
      rcases List.mem_cons.1 h with rfl | h
      · exact List.mem_cons_self
      · exact List.mem_cons_of_mem _ (mem_dropOldestNotice hm h)

/-- A notice takes no reply out of the port. -/
theorem carries_pushNotice {p : Port} {tag : Byte} {r : Reply} (n : Notice) (h : p.carries (.reply tag r)) :
    (p.pushNotice n).carries (.reply tag r) := by
  unfold Port.pushNotice
  apply carries_startSend
  dsimp only
  rcases h with h | h
  · left
    split
    · exact List.mem_append_left _ (mem_dropOldestNotice rfl h)
    · exact List.mem_append_left _ h
  · right
    split <;> exact h

theorem carries_pushReply (p : Port) (tag : Byte) (r : Reply) :
    (p.pushReply tag r).carries (.reply tag r) := by
  unfold Port.pushReply
  apply carries_startSend
  exact Or.inl (by simp)

end

/-- A port keeps its frames, its receiver, and the replies it carries. -/
structure PortKept (p q : Port) : Prop where
  frames : q.frames = p.frames
  receiver : q.receiver = p.receiver
  carries : ∀ tag r, p.carries (.reply tag r) → q.carries (.reply tag r)

theorem PortKept.refl (p : Port) : PortKept p p := ⟨rfl, rfl, fun _ _ h => h⟩

theorem PortKept.of_eq {p q : Port} (h : q = p) : PortKept p q := h ▸ PortKept.refl _

theorem PortKept.trans {p q r : Port} (h : PortKept p q) (k : PortKept q r) : PortKept p r :=
  ⟨k.frames.trans h.frames, k.receiver.trans h.receiver, fun tag x hx => k.carries tag x (h.carries tag x hx)⟩

theorem PortKept.pushNotice (p : Port) (n : Notice) : PortKept p (p.pushNotice n) :=
  ⟨pushNotice_frames p n, pushNotice_receiver p n, fun _ _ => carries_pushNotice n⟩

theorem PortKept.setDriveLimit (p : Port) : PortKept p (setDriveLimit p) := ⟨rfl, rfl, fun _ _ h => h⟩

theorem PortKept.setFaultmapFull (p : Port) : PortKept p (setFaultmapFull p) := ⟨rfl, rfl, fun _ _ h => h⟩

theorem port_of_ports_eq {s t : State} (h : t.ports = s.ports) (l : Link) : t.port l = s.port l := by
  cases l <;> simp only [State.port, h]

/-- A flag set in both ports keeps what each port holds. -/
theorem PortKept.flagBoth (s : State) {f : Port → Port} (hf : ∀ p, PortKept p (f p)) (l : Link) :
    PortKept (s.port l) ((s.flagBoth f).port l) := by
  cases l with
  | station => exact hf _
  | patron =>
    show PortKept s.ports.patron (if s.ports.presence then f s.ports.patron else s.ports.patron)
    split
    · exact hf _
    · exact PortKept.refl _

theorem EngineMove.port {W : Line → Prop} {s t : State} (h : EngineMove W s t) (l : Link) :
    PortKept (s.port l) (t.port l) := by
  cases h with
  | notice k n _ =>
    by_cases hk : k = l
    · subst hk
      rw [port_setPort_same]
      exact PortKept.pushNotice _ n
    · rw [port_setPort_other s _ hk]
      exact PortKept.refl _
  | driveLimit => exact PortKept.flagBoth s PortKept.setDriveLimit l
  | mapFull => exact PortKept.flagBoth s PortKept.setFaultmapFull l
  | _ => exact .of_eq (port_of_ports_eq (by simp [State.putStaging, State.putTarget, State.setOperation]) l)

theorem EngineRun.port {W : Line → Prop} {s t : State} (h : EngineRun W s t) (l : Link) :
    PortKept (s.port l) (t.port l) :=
  h.keeps (P := fun t => PortKept (s.port l) (t.port l)) (fun _ _ hm hs => hs.trans (hm.port l))
    (PortKept.refl _)

/-! ### Each operation is a run -/

namespace EngineRun

variable {W : Line → Prop}

theorem single {s t : State} (h : EngineMove W s t) : EngineRun W s t := Relation.ReflTransGen.single h

theorem foldl {α : Type} (f : State → α → State) (hf : ∀ s a, EngineRun W s (f s a)) (l : List α) :
    ∀ s, EngineRun W s (l.foldl f s) := by
  induction l with
  | nil => exact fun _ => .refl
  | cons a l ih => exact fun s => (hf s a).trans (ih (f s a))

variable (s : State)

/-- An update of the engine that keeps the fields EngineShift speaks of. -/
theorem setEngine {x : Engine} (queue : x.queue = s.engine.queue := by rfl)
    (stale : x.stale = s.engine.stale := by rfl)
    (cancelled : x.cancelled = s.engine.cancelled := by rfl)
    (generation : x.generation = s.engine.generation := by rfl)
    (returns : x.returnList = s.engine.returnList := by rfl)
    (waiting : x.sweepWaiting = s.engine.sweepWaiting := by rfl) :
    EngineRun W s (s.setEngine x) :=
  single (.engine s x (.of_eq queue stale cancelled generation returns waiting))

theorem setEngineState (x : EngineState) : EngineRun W s (s.setEngineState x) :=
  setEngine s

theorem updRefresh (f : Refresh → Refresh) : EngineRun W s (s.updRefresh f) :=
  setEngine s

theorem setOperation (op : Option Operation) : EngineRun W s (s.setOperation op) :=
  single (.operation s op)

theorem startSense (k : SenseKind) (l : Line) : EngineRun W s (s.startSense k l) :=
  (setOperation s _).trans (setEngineState _ _)

theorem startReturn : EngineRun W s s.startReturn := by
  unfold State.startReturn
  split
  · exact .refl
  · exact startSense s _ _

theorem goIdle : EngineRun W s s.goIdle :=
  (setEngine s).trans (startReturn _)

theorem notify (l : Link) (n : Notice) : EngineRun W s (s.notify l n) := by
  unfold State.notify
  split
  · rename_i h
    exact single (.notice s l n h)
  · exact .refl

theorem sendClosed (r : Refresh) (o : CloseOutcome) (e : Option Identity) :
    EngineRun W s (s.sendClosed r o e) := by
  unfold State.sendClosed
  dsimp only
  split <;> split
  · exact (notify s _ _).trans (notify _ _ _)
  · exact notify s _ _
  · exact notify s _ _
  · exact .refl

/-- A prompt raised or answered. -/
theorem setPrompt (b : Bool) : EngineRun W s (s.setWriter { s.writer with prompt := b }) :=
  single (.writer s _ fun _ h => Or.inl h)

theorem promptWriter : EngineRun W s s.promptWriter := setPrompt s true

theorem promptIf (b : Bool) : EngineRun W s (s.promptIf b) := by
  unfold State.promptIf
  split
  · exact promptWriter s
  · exact .refl

theorem setIdle (n : Option Nat) : EngineRun W s (s.setReservoir { s.reservoir with idle := n }) :=
  single (.idle s n)

theorem closeRefresh (r : Refresh) (o : CloseOutcome) (e : Option Identity) :
    EngineRun W s (s.closeRefresh r o e) :=
  (sendClosed s r o e).trans ((setEngine _).trans ((setIdle _ _).trans
    ((promptWriter _).trans (goIdle _))))

theorem closeDecision (who : Option Identity) : EngineRun W s (s.closeDecision who) := by
  unfold State.closeDecision
  split
  · exact .refl
  · split
    · split
      · exact closeRefresh s _ _ _
      · split
        · exact closeRefresh s _ _ _
        · exact closeRefresh s _ _ _
    · split
      · exact closeRefresh s _ _ _
      · split
        · exact closeRefresh s _ _ _
        · exact (updRefresh s _).trans ((setEngineState _ _).trans (startReturn _))

/-- A pin of the line that the fault map does not hold may be offered to it. -/
theorem offerPin (l : Line) (p : LinePin) (new : s.faultMapped l p = false) :
    EngineRun W s (State.offerPin l s p) := by
  unfold State.offerPin
  split
  · rename_i room
    dsimp only
    refine (single (.entry s _ room ?_)).trans ((updRefresh _ _).trans (notify _ _ _))
    intro hmem
    obtain ⟨e, he, hpin⟩ := List.mem_map.1 hmem
    have hmapped : s.faultMapped l p = true := by
      unfold State.faultMapped
      rw [List.any_eq_true]
      refine ⟨e, he, ?_⟩
      simp only [faultPin, Prod.mk.injEq] at hpin
      simp [hpin]
    rw [hmapped] at new
    cases new
  · exact single (.mapFull s)

end EngineRun

/-- An offered pin is the only one that the fault map may hold more. -/
theorem faultMapped_offerPin (s : State) (l : Line) {p q : LinePin} (h : q ≠ p) :
    (State.offerPin l s p).faultMapped l q = s.faultMapped l q := by
  unfold State.offerPin
  split
  · dsimp only
    have hne : (cellOf p == cellOf q && dotOf p == dotOf q) = false := by
      rw [Bool.eq_false_iff]
      intro hboth
      obtain ⟨hc, hd⟩ : cellOf p = cellOf q ∧ dotOf p = dotOf q := by simpa using hboth
      exact h (pin_ext hc hd).symm
    have hhealth : ∀ (u : State) (k : Link) (n : Notice), (u.notify k n).health = u.health := by
      intro u k n
      rw [notify_eq, setPort_health]
    unfold State.faultMapped
    rw [hhealth]
    show (s.health.faultMap ++ [_]).any _ = _
    rw [List.any_append]
    simp only [List.any_cons, List.any_nil, Bool.or_false, Bool.and_assoc, hne, Bool.and_false]
  · rfl

theorem nodup_pinsByCell : pinsByCell.Nodup := by decide +kernel

namespace EngineRun

variable {W : Line → Prop} (s : State)

theorem offerPins (l : Line) (ps : List LinePin) : ∀ s : State, ps.Nodup →
    (∀ p ∈ ps, s.faultMapped l p = false) → EngineRun W s (ps.foldl (State.offerPin l) s) := by
  induction ps with
  | nil => exact fun _ _ _ => .refl
  | cons p ps ih =>
    intro s hnodup hnew
    obtain ⟨hp, hps⟩ := List.nodup_cons.1 hnodup
    refine (offerPin s l p (hnew p (by simp))).trans (ih _ hps fun q hq => ?_)
    rw [faultMapped_offerPin s l (by rintro rfl; exact hp hq)]
    exact hnew q (List.mem_cons_of_mem _ hq)

theorem recordFaults (c : Current) : EngineRun W s (s.recordFaults c) := by
  refine offerPins c.line _ s (nodup_pinsByCell.filter _) fun p hp => ?_
  have hexhausted := (List.mem_filter.1 hp).2
  simp only [State.exhausted, State.undone, Bool.and_eq_true, Bool.not_eq_true'] at hexhausted
  exact hexhausted.1.1.2

/-- A worked line finishes: its guarded zones alone become stale. -/
theorem leaveFinished (l : Line) (worked : W l) : EngineRun W s (s.leaveFinished l) := by
  refine (single (.writer s { s.writer with
      lastUnsettled := s.writer.lastUnsettled.set l (s.unsettledAt l) } ?_)).trans
    (single (.engine _ _ ⟨?_, ?_, Or.inl rfl, Or.inl rfl, rfl, rfl⟩))
  · intro k hk
    rw [Table.get_set] at hk
    split at hk
    · rename_i heq; exact Or.inr (heq ▸ worked)
    · exact Or.inl hk
  · intro k hk
    exact Or.inl (List.mem_filter.1 hk).1
  · intro z hz
    rw [Table.get_tab] at hz
    split at hz
    · rename_i hline
      right
      simp only [State.defersZone, Bool.and_eq_true] at hz
      exact ⟨hz.1.2, hline ▸ worked⟩
    · exact Or.inl hz

theorem finishLine (c : Current) (b : Bool) (worked : W c.line) : EngineRun W s (s.finishLine c b) := by
  unfold State.finishLine
  split
  · exact (recordFaults s c).trans (leaveFinished _ _ worked)
  · exact leaveFinished s _ worked

theorem countClamps (n : Nat) : EngineRun W s (s.countClamps n) := by
  unfold State.countClamps
  split
  · exact .refl
  · exact (updRefresh s _).trans (single (.driveLimit _))

/-- The packing event of a line with a candidate, at Q_READY or above. -/
theorem fire (c : Current) (ready : s.settings.qReady ≤ s.reservoir.q) (some : s.hasCandidate c = true) :
    EngineRun W s (s.fire c (s.formStroke c)) :=
  (single (.draws s c ready some)).trans ((single (.struck _ _)).trans
    ((single (.wear _ c.line _)).trans ((countClamps _ _).trans
      ((setOperation _ _).trans (setEngine _)))))

theorem packOrWait (c : Current) (some : s.hasCandidate c = true) : EngineRun W s (s.packOrWait c) := by
  unfold State.packOrWait
  split
  · rename_i ready
    exact fire s c ready some
  · exact setEngine s

theorem endRaise (c : Current) (worked : W c.line) : EngineRun W s (s.endRaise c).1 := by
  unfold State.endRaise
  split
  · exact (setEngine s).trans (startSense _ _ _)
  · exact finishLine s c _ worked

/-- A packing point on a module that is not HOT; on a HOT one the line's fresh flag may fall. -/
theorem packingPoint (c : Current) (worked : W c.line) (ready : s.lineModule c.line ≠ .hot) :
    EngineRun W s (s.packingPoint c).1 := by
  unfold State.packingPoint
  rw [if_neg ready]
  split
  · rename_i some
    exact packOrWait s c some
  · split
    · exact endRaise s c worked
    · dsimp only
      split
      · rename_i some
        exact packOrWait s _ some
      · exact endRaise s _ worked

theorem takeLine (l : Line) (worked : W l) (ready : s.lineModule l ≠ .hot) : EngineRun W s (s.takeLine l).1 := by
  unfold State.takeLine
  dsimp only
  split
  · exact packingPoint s _ worked ready
  · exact (setEngine s).trans (startSense _ _ _)

end EngineRun

/-- The lines the engine may come to work on its own: those queued, and LOCAL's. -/
structure Workable (W : Line → Prop) (s : State) : Prop where
  queued : ∀ l ∈ s.engine.queue, W l
  written : ∀ l, s.owns .localWriter l = true → W l

theorem Workable.all (s : State) : Workable (fun _ => True) s := ⟨fun _ _ => trivial, fun _ _ => trivial⟩

theorem Workable.run {W : Line → Prop} {s t : State} (hw : Workable W s) (h : EngineRun W s t) :
    Workable W t where
  queued l hl := (h.shift.queue l hl).elim (hw.queued l) fun h => hw.written l h.1
  written l hl := hw.written l (h.owns ▸ hl)

namespace EngineRun

variable {W : Line → Prop}

theorem chooseLoop (n : Nat) : ∀ s, Workable W s → EngineRun W s (State.chooseLoop n s) := by
  induction n with
  | zero => exact fun _ _ => .refl
  | succ n ih =>
    intro s hw
    rw [chooseLoop_succ]
    split
    · exact startReturn s
    · split
      · exact closeDecision s _
      · cases hready : s.nextReady with
        | none => exact setEngineState s _
        | some l =>
          have htake : EngineRun W s (s.takeLine l).1 :=
            takeLine s l (hw.queued l (List.mem_of_find?_eq_some hready)) (by
              have ready : s.lineModule l = .ready := by simpa using List.find?_some hready
              simp [ready])
          dsimp only
          split
          · exact htake.trans (ih _ (hw.run htake))
          · exact htake

variable (s : State)

theorem choose (hw : Workable W s) : EngineRun W s s.choose := chooseLoop _ s hw

theorem andChoose {r : State × Bool} (h : EngineRun W s r.1) (hw : Workable W s) :
    EngineRun W s (State.andChoose r) := by
  unfold State.andChoose
  split
  · exact h.trans (choose _ (hw.run h))
  · exact h

theorem kick (hw : Workable W s) : EngineRun W s s.kick := by
  unfold State.kick
  split
  · split
    · exact .refl
    · exact choose s hw
  · exact .refl

/-- A line of LOCAL is appended. -/
theorem appendLine (l : Line) (hl : s.owns .localWriter l = true) : EngineRun W s (s.appendLine l) := by
  unfold State.appendLine
  split
  · rename_i service
    refine single (.engine s _ ⟨?_, fun _ h => Or.inl h, Or.inl rfl, Or.inl rfl, rfl, rfl⟩)
    intro k hk
    dsimp only at hk
    split at hk
    · exact Or.inl hk
    · rcases List.mem_append.1 hk with hk | hk
      · exact Or.inl hk
      · rw [List.mem_singleton.1 hk]; exact Or.inr ⟨hl, service⟩
  · exact updRefresh s _

theorem appendLines (ls : List Line) : ∀ s : State, (∀ l ∈ ls, s.owns .localWriter l = true) →
    EngineRun W s (s.appendLines ls) := by
  induction ls with
  | nil => exact fun _ _ => .refl
  | cons l ls ih =>
    intro s hlocal
    have hfirst : EngineRun W s (s.appendLine l) := appendLine s l (hlocal l (by simp))
    exact hfirst.trans (ih _ fun k hk => by
      rw [hfirst.owns]; exact hlocal k (List.mem_cons_of_mem _ hk))

/-- A refresh opens for lines of LOCAL. -/
theorem openRefresh (who : Requesters) (ls : List Line) (hne : ls ≠ [])
    (hlocal : ∀ l ∈ ls, s.owns .localWriter l = true) : EngineRun W s (s.openRefresh who ls) := by
  obtain ⟨l, hl⟩ := List.exists_mem_of_ne_nil ls hne
  refine (single (.engine s _ ?_)).trans ((single (.opens _)).trans (appendLines ls _ hlocal))
  exact ⟨fun _ h => Or.inl h, fun _ h => Or.inl h, Or.inl rfl, Or.inr ⟨l, hlocal l hl⟩, rfl, rfl⟩

theorem commitLine (l : Line) (hl : s.owns .localWriter l = true) : EngineRun W s (s.commitLine l) := by
  refine (single (.target s l _ hl)).trans (single (.engine _ _
    ⟨fun _ h => Or.inl h, fun _ h => Or.inl h, ?_, Or.inl rfl, rfl, rfl⟩))
  show s.engine.cancelled.map _ = s.engine.cancelled ∨ _
  cases hc : s.engine.cancelled with
  | none => exact Or.inl rfl
  | some w =>
    by_cases hw : w.line = l
    · exact Or.inr ⟨w, hc, hw ▸ hl⟩
    · left
      simp [hw]

theorem commitLines (ls : List Line) : ∀ s : State, (∀ l ∈ ls, s.owns .localWriter l = true) →
    EngineRun W s (s.commitLines ls) := by
  induction ls with
  | nil => exact fun _ _ => .refl
  | cons l ls ih =>
    intro s hlocal
    have hfirst : EngineRun W s (s.commitLine l) := commitLine s l (hlocal l (by simp))
    exact hfirst.trans (ih _ fun k hk => by
      rw [hfirst.owns]; exact hlocal k (List.mem_cons_of_mem _ hk))

theorem putStagings (content : Line → Content) (ls : List Line) :
    ∀ s : State, (∀ l ∈ ls, s.owns .localWriter l = true) →
      EngineRun W s (ls.foldl (fun s l => s.putStaging l (content l)) s) := by
  induction ls with
  | nil => exact fun _ _ => .refl
  | cons l ls ih =>
    intro s hlocal
    have hfirst : EngineRun W s (s.putStaging l (content l)) :=
      single (.staging s l _ (hlocal l (by simp)))
    exact hfirst.trans (ih _ fun k hk => by
      rw [hfirst.owns]; exact hlocal k (List.mem_cons_of_mem _ hk))

end EngineRun

theorem mem_ownedLines (s : State) (who : Identity) (l : Line) :
    l ∈ s.ownedLines who ↔ s.owns who l = true := by
  simp [State.ownedLines, mem_allLines]

namespace EngineRun

variable {W : Line → Prop} (s : State)

/-- A commit of LOCAL with no refresh open. -/
theorem commit_localWriter (ls : List Line) (hlocal : ∀ l ∈ ls, s.owns .localWriter l = true)
    (closed : s.engine.refresh = none) (hw : Workable W s) :
    EngineRun W s (s.commit .localWriter ls) := by
  have hcommit : EngineRun W s (s.commitLines ls) := commitLines ls s hlocal
  have hrefresh : ∀ (ls : List Line) (s : State), (s.commitLines ls).engine.refresh = s.engine.refresh := by
    intro ls
    induction ls with
    | nil => exact fun _ => rfl
    | cons l ls ih => exact fun s => (ih (s.commitLine l)).trans rfl
  unfold State.commit State.handLines
  split
  · exact hcommit
  · rename_i hne
    rw [hrefresh, closed]
    have hopen : EngineRun W (s.commitLines ls)
        ((s.commitLines ls).openRefresh (onlyRequester .localWriter) (s.dirtyLines ls)) :=
      openRefresh _ _ _ hne fun l hl => by
        rw [hcommit.owns]; exact hlocal l (List.mem_filter.1 hl).1
    exact hcommit.trans (hopen.trans (kick _ (hw.run (hcommit.trans hopen))))

theorem recompute (closed : s.engine.refresh = none) (hw : Workable W s) : EngineRun W s s.recompute := by
  unfold State.recompute
  dsimp only
  have hlocal : ∀ l ∈ s.ownedLines .localWriter, s.owns .localWriter l = true :=
    fun l hl => (mem_ownedLines s _ l).1 hl
  have hwrite := putStagings (W := W) s.composed (s.ownedLines .localWriter) s hlocal
  have hrefresh : ∀ (content : Line → Content) (ls : List Line) (s : State),
      (ls.foldl (fun s l => s.putStaging l (content l)) s).engine.refresh = s.engine.refresh := by
    intro content ls
    induction ls with
    | nil => exact fun _ => rfl
    | cons l ls ih => exact fun s => (ih (s.putStaging l _)).trans rfl
  split
  · exact .refl
  · refine hwrite.trans (commit_localWriter _ _ (fun l hl => ?_) ((hrefresh _ _ s).trans closed)
      (hw.run hwrite))
    rw [hwrite.owns]
    exact hlocal l hl

theorem answerPrompt (hw : Workable W s) : EngineRun W s s.answerPrompt := by
  unfold State.answerPrompt
  split
  · dsimp only
    have hprompt : EngineRun W s (s.setWriter { s.writer with prompt := false }) := setPrompt s false
    split
    · rename_i h
      simp only [Bool.and_eq_true, Option.isNone_iff_eq_none] at h
      exact hprompt.trans (recompute _ h.1 (hw.run hprompt))
    · exact hprompt
  · exact .refl

theorem answerPrompts (n : Nat) : ∀ s : State, Workable W s → EngineRun W s (State.answerPrompts n s) := by
  induction n with
  | zero => exact fun _ _ => .refl
  | succ n ih =>
    intro s hw
    unfold State.answerPrompts
    split
    · exact (answerPrompt s hw).trans (ih _ (hw.run (answerPrompt s hw)))
    · exact .refl

theorem settle (hw : Workable W s) : EngineRun W s s.settle := by
  unfold State.settle
  dsimp only
  split
  · exact answerPrompt s hw
  · exact answerPrompts _ s hw

end EngineRun

end Sys2Proof.Machine
end

section
/-!
What an event is made of. `BlockMove` adds to the engine's updates those that an event makes of the other blocks,
with what each needs of the state; `EventMove` adds what an event does to the ports and the presence line. Every
command that answers a next state is a sequence of them (`exec_cases`), but for power, the soft reset, and the fall of
the presence line of a board without power; an invariant which each of these keeps is kept by every step.
-/

namespace Sys2Proof.Machine

/-! ### The updates -/

/-- The zones are in step with their readings, and those of ABSENT modules CLEAR (R49, R50). -/
structure ZonesAgree (s : State) : Prop where
  agrees : ∀ z, zoneAgrees (s.zones.get z)
  absent : ∀ z, s.lineModule (zoneLine z) = .absent → s.zones.get z = ⟨.clear, false⟩

/-- One update of the blocks beside the ports. The health records, the record store, the settings, the panes
and the zones change in ways that keep their bounds, no module becomes ABSENT but by the module detection, and the
stage moves on to the sweep or past it. -/
inductive BlockMove : State → State → Prop
  | engine {W : Line → Prop} {s t : State} (h : EngineMove W s t) : BlockMove s t
  | setEngine (s : State) (x : Engine) : BlockMove s (s.setEngine x)
  | setPage (s : State) (x : PageStore) : BlockMove s (s.setPage x)
  | setZones (s : State) (x : Table Zone 96)
      (ok : s.zonesReached = true → ZonesAgree s → ZonesAgree (s.setZones x)) : BlockMove s (s.setZones x)
  | setModules (s : State) (x : ModuleInterface)
      (ok : ∀ m, (x.records.get m).state = .absent → s.moduleState m = .absent) :
      BlockMove s (s.setModules x)
  | detect (s : State) (answers : Table Bool 8) (readings : Table Int 8) :
      BlockMove s (s.detect answers readings)
  | setWriter (s : State) (x : Writer) : BlockMove s (s.setWriter x)
  | setStage (s : State) (x : Stage) (swept : x = .sweeping ∨ x = .running) : BlockMove s (s.setStage x)
  | charge (s : State) (h : s.reservoir.charger = .charging) :
      BlockMove s (s.setReservoir s.reservoir.charge)
  | empty (s : State) : BlockMove s (s.setReservoir initialReservoir)
  | setSettings (s : State) (x : Settings) (ok : SettingsInRange s.settings → SettingsInRange x) :
      BlockMove s (s.setSettings x)
  | setStore (s : State) (x : Store) (ok : TablesOk s → TablesOk (s.setStore x)) :
      BlockMove s (s.setStore x)
  | setHealth (s : State) (x : Health) (ok : TablesOk s → HealthOk x) : BlockMove s (s.setHealth x)
  | setPanes (s : State) (x : List Pane) (ok : PaneTableOk s → PaneTableOk (s.setPanes x)) :
      BlockMove s (s.setPanes x)

abbrev BlockRun : State → State → Prop := Relation.ReflTransGen BlockMove

/-- One update of an event. A port changes in ways that keep its bounds, and a port out of service that is empty stays
as it is. -/
inductive EventMove : State → State → Prop
  | block {s t : State} (h : BlockMove s t) : EventMove s t
  | port (s : State) (l : Link) (p : Port) (ok : PortOk (s.port l) → PortOk p)
      (empty : s.inService l = false → s.port l = freshPort → p = freshPort) :
      EventMove s (s.setPort l p)
  | resetWait (s : State) (w : Option ResetWait) : EventMove s (s.setPorts { s.ports with resetWait := w })
  | losePatron (s : State) : EventMove s ((s.setPorts { s.ports with patron := freshPort, presence := false }).setPanes
      (revertPanes s.panes))
  | gainPatron (s : State) : EventMove s (s.setPorts { s.ports with patron := freshPort, presence := true })

abbrev EventRun : State → State → Prop := Relation.ReflTransGen EventMove

theorem BlockRun.event {s t : State} (h : BlockRun s t) : EventRun s t := h.lift id fun _ _ => EventMove.block

theorem EngineRun.block {W : Line → Prop} {s t : State} (h : EngineRun W s t) : BlockRun s t :=
  h.lift id fun _ _ => BlockMove.engine

/-! ### What the updates of the blocks keep -/

theorem BlockMove.port {s t : State} (h : BlockMove s t) (l : Link) : PortKept (s.port l) (t.port l) := by
  cases h with
  | engine h => exact h.port l
  | _ => exact .of_eq (port_of_ports_eq (by simp [State.detect]) l)

theorem BlockRun.port {s t : State} (h : BlockRun s t) (l : Link) : PortKept (s.port l) (t.port l) := by
  induction h with
  | refl => exact PortKept.refl _
  | tail _ hm ih => exact ih.trans (hm.port l)

theorem BlockMove.pending {s t : State} (h : BlockMove s t) : t.pending = s.pending := by
  cases h with
  | engine h => exact h.same.pending
  | _ => simp [State.detect]

theorem EventMove.pending {s t : State} (h : EventMove s t) : t.pending = s.pending := by
  cases h with
  | block h => exact h.pending
  | _ => simp

theorem EventRun.pending {s t : State} (h : EventRun s t) : t.pending = s.pending := by
  induction h with
  | refl => rfl
  | tail _ hm ih => exact hm.pending.trans ih

/-! ### The shared operations are runs -/

namespace BlockRun

theorem single {s t : State} (h : BlockMove s t) : BlockRun s t := Relation.ReflTransGen.single h

theorem foldl {α : Type} (f : State → α → State) (hf : ∀ s a, BlockRun s (f s a)) (l : List α) :
    ∀ s, BlockRun s (l.foldl f s) := by
  induction l with
  | nil => exact fun _ => .refl
  | cons a l ih => exact fun s => (hf s a).trans (ih (f s a))

variable (s : State)

theorem setEngine (x : Engine) : BlockRun s (s.setEngine x) := single (.setEngine s x)
theorem setPage (x : PageStore) : BlockRun s (s.setPage x) := single (.setPage s x)
theorem setWriter (x : Writer) : BlockRun s (s.setWriter x) := single (.setWriter s x)
theorem setOperation (op : Option Operation) : BlockRun s (s.setOperation op) :=
  single (.setModules s _ fun _ h => h)

/-- A module's record is replaced; the module is ABSENT afterwards only if it was so. -/
theorem putModule (m : ModuleId) (x : ModuleRecord) (h : x.state = .absent → s.moduleState m = .absent) :
    BlockRun s (s.putModule m x) := by
  refine single (.setModules s _ fun k hk => ?_)
  rw [Table.get_set] at hk
  split at hk
  · rename_i heq
    exact heq ▸ h hk
  · exact hk

/-- A zone is replaced by one in step with its reading. -/
theorem putZone (z : ZoneId) (x : Zone) (h : s.zonesReached = true → ZonesAgree s →
    zoneAgrees x ∧ (s.lineModule (zoneLine z) = .absent → x = ⟨.clear, false⟩)) :
    BlockRun s (s.putZone z x) := by
  refine single (.setZones s _ fun reached ok => ?_)
  obtain ⟨agrees, absent⟩ := h reached ok
  constructor
  · intro k
    rw [State.setZones_zones, Table.get_set]
    split
    · exact agrees
    · exact ok.agrees k
  · intro k hk
    rw [State.setZones_zones, Table.get_set]
    split
    · rename_i heq
      exact absent (heq ▸ hk)
    · exact ok.absent k hk
theorem setEngineState (x : EngineState) : BlockRun s (s.setEngineState x) := setEngine s _
theorem updRefresh (f : Refresh → Refresh) : BlockRun s (s.updRefresh f) := setEngine s _

theorem choose : BlockRun s s.choose := (EngineRun.choose s (Workable.all s)).block
theorem kick : BlockRun s s.kick := (EngineRun.kick s (Workable.all s)).block
theorem settle : BlockRun s s.settle := (EngineRun.settle s (Workable.all s)).block
theorem answerPrompt : BlockRun s s.answerPrompt := (EngineRun.answerPrompt s (Workable.all s)).block
theorem goIdle : BlockRun s s.goIdle := (EngineRun.goIdle (W := fun _ => True) s).block
theorem startReturn : BlockRun s s.startReturn := (EngineRun.startReturn (W := fun _ => True) s).block
theorem startSense (k : SenseKind) (l : Line) : BlockRun s (s.startSense k l) :=
  (EngineRun.startSense (W := fun _ => True) s k l).block
theorem notify (l : Link) (n : Notice) : BlockRun s (s.notify l n) :=
  (EngineRun.notify (W := fun _ => True) s l n).block
theorem sendClosed (r : Refresh) (o : CloseOutcome) (e : Option Identity) :
    BlockRun s (s.sendClosed r o e) := (EngineRun.sendClosed (W := fun _ => True) s r o e).block
theorem closeDecision (who : Option Identity) : BlockRun s (s.closeDecision who) :=
  (EngineRun.closeDecision (W := fun _ => True) s who).block
theorem promptIf (b : Bool) : BlockRun s (s.promptIf b) :=
  (EngineRun.promptIf (W := fun _ => True) s b).block
theorem finishLine (c : Current) (b : Bool) : BlockRun s (s.finishLine c b) :=
  (EngineRun.finishLine (W := fun _ => True) s c b trivial).block
theorem suspend (c : Current) : BlockRun s (s.suspend c) := by
  unfold State.suspend
  dsimp only
  split
  · exact (setEngine s _).trans (setPage _ _)
  · exact setEngine s _
theorem andChoose_packingPoint (c : Current) : BlockRun s (State.andChoose (s.packingPoint c)) := by
  by_cases ready : s.lineModule c.line = .hot
  · rw [show s.packingPoint c = (s.suspend c, true) from if_pos ready]
    exact (suspend s c).trans (choose _)
  · exact (EngineRun.andChoose s (EngineRun.packingPoint s c trivial ready) (Workable.all s)).block

theorem putStaging (l : Line) (c : Content) : BlockRun s (s.putStaging l c) := setPage s _
theorem putTarget (l : Line) (c : Content) : BlockRun s (s.putTarget l c) := setPage s _
theorem putSensed (l : Line) (c : Content) : BlockRun s (s.putSensed l c) := setPage s _
theorem clearFresh (l : Line) : BlockRun s (s.clearFresh l) := setPage s _
theorem blankLines (ls : List Line) : BlockRun s (s.blankLines ls) := foldl _ (fun s _ => setPage s _) ls s
theorem stagingToTarget (ls : List Line) : BlockRun s (s.stagingToTarget ls) :=
  foldl _ (fun s _ => setPage s _) ls s
theorem setBoth (l : Line) (c : Content) : BlockRun s (s.setBoth l c) := (putStaging s l c).trans (putTarget _ l c)

theorem appendLine (l : Line) : BlockRun s (s.appendLine l) := by
  unfold State.appendLine
  split
  · exact setEngine s _
  · exact updRefresh s _

theorem appendLines (ls : List Line) : BlockRun s (s.appendLines ls) := foldl _ appendLine ls s

theorem openRefresh (who : Requesters) (ls : List Line) : BlockRun s (s.openRefresh who ls) :=
  (setEngine s _).trans ((single (.engine (.opens (W := fun _ => True) _))).trans (appendLines _ ls))

theorem mergeRefresh (r : Refresh) (who : Identity) (ls : List Line) : BlockRun s (s.mergeRefresh r who ls) :=
  (sendClosed s _ _ _).trans ((setEngine _ _).trans ((appendLines _ _).trans (updRefresh _ _)))

theorem handLines (who : Identity) (ls : List Line) : BlockRun s (s.handLines who ls) := by
  unfold State.handLines
  split
  · exact .refl
  · split
    · exact (openRefresh s _ _).trans (kick _)
    · exact (mergeRefresh s _ _ _).trans (kick _)

theorem commit (who : Identity) (ls : List Line) : BlockRun s (s.commit who ls) :=
  (foldl _ (fun s l => (putTarget s l _).trans (setEngine _ _)) ls s).trans (handLines _ _ _)

theorem catchUp (ls : List Line) : BlockRun s (s.catchUp ls) := by
  unfold State.catchUp
  split
  · exact appendLines s _
  · split
    · exact openRefresh s _ _
    · exact .refl

theorem endCancel (w : CancelWork) : BlockRun s (s.endCancel w) := by
  have hcopy : BlockRun s (if w.copyDue then s.putTarget w.line (s.sensed w.line) else s) := by
    split
    · exact putTarget s _ _
    · exact .refl
  have hend : ∀ v : State, BlockRun v
      (if v.engine.queue = [] then v.closeDecision (some w.canceller) else v.choose) := by
    intro v
    split
    · exact closeDecision v _
    · exact choose v
  exact hcopy.trans ((setEngine _ _).trans (hend _))

theorem moduleChanged (m : ModuleId) (x : ModuleState) : BlockRun s (s.moduleChanged m x) := by
  unfold State.moduleChanged
  split
  · exact notify s _ _
  · exact .refl

theorem clearModuleFresh (m : ModuleId) : BlockRun s (s.clearModuleFresh m) := foldl _ clearFresh _ s

theorem enterStarting (m : ModuleId) (reading : Int) : BlockRun s (s.enterStarting m reading) :=
  (putModule s m _ (by simp)).trans ((clearModuleFresh _ m).trans ((moduleChanged _ m _).trans (setEngine _ _)))

theorem enterFaulted (m : ModuleId) : BlockRun s (s.enterFaulted m) :=
  (putModule s m _ (by simp)).trans ((clearModuleFresh _ m).trans ((moduleChanged _ m _).trans (setEngine _ _)))

theorem continueReturn : BlockRun s s.continueReturn := by
  unfold State.continueReturn
  split
  · exact startReturn s
  · split
    · exact choose s
    · exact goIdle s

theorem addReturn (l : Line) : BlockRun s (s.addReturn l) := by
  unfold State.addReturn
  split
  · exact .refl
  · exact setEngine s _

theorem kickReturn : BlockRun s s.kickReturn := by
  unfold State.kickReturn
  split
  · exact startReturn s
  · exact .refl

theorem completeSweep : BlockRun s s.completeSweep := by
  unfold State.completeSweep
  dsimp only
  have hrun : BlockRun s (s.setStage .running) := single (.setStage s .running (Or.inr rfl))
  split
  · exact hrun.trans ((foldl _ (fun s l => setBoth s l _) _ _).trans (goIdle _))
  · exact hrun.trans ((foldl _ (fun s l => setBoth s l _) _ _).trans ((openRefresh _ _ _).trans (kick _)))

theorem continueSweep : BlockRun s s.continueSweep := by
  unfold State.continueSweep
  split
  · exact .refl
  · split
    · exact (setEngine s _).trans (startSense _ _ _)
    · split
      · exact completeSweep s
      · exact .refl

theorem sweepFaulted (m : ModuleId) : BlockRun s (s.sweepFaulted m) := (setEngine s _).trans (blankLines _ _)

theorem endSense (l : Line) (c : Content) : BlockRun s (s.endSense l c) := (setPage s _).trans (setOperation _ _)

theorem afterLineWork {go : Current → State} (hgo : ∀ c, BlockRun s (go c)) :
    BlockRun s (s.afterLineWork go) := by
  unfold State.afterLineWork
  split
  · exact endCancel s _
  · split
    · exact hgo _
    · exact kick s

theorem catchUndone (l : Line) : BlockRun s (s.catchUndone l) := by
  unfold State.catchUndone
  split
  · exact catchUp s _
  · exact .refl

theorem leaveAudit : BlockRun s s.leaveAudit := by
  unfold State.leaveAudit
  split
  · exact choose s
  · exact goIdle s

theorem assumeDriven (r : Stroke) : BlockRun s (s.assumeDriven r) := by
  unfold State.assumeDriven
  split
  · exact .refl
  · exact putSensed s _ _

theorem touchNotice (z : ZoneId) (e : TouchEvent) : BlockRun s (s.touchNotice z e) := by
  unfold State.touchNotice
  split
  · dsimp only
    split
    · exact (notify s _ _).trans (notify _ _ _)
    · exact notify s _ _
  · exact .refl

theorem releaseStale (z : ZoneId) : BlockRun s (s.releaseStale z) := by
  unfold State.releaseStale
  split
  · exact (promptIf s _).trans ((setEngine _ _).trans ((catchUp _ _).trans (kick _)))
  · exact .refl

theorem compareReady : BlockRun s s.compareReady := by
  unfold State.compareReady
  split
  · split
    · exact andChoose_packingPoint s _
    · exact .refl
  · exact .refl

theorem verifyDecision (c : Current) : BlockRun s (s.verifyDecision c) := by
  unfold State.verifyDecision
  split
  · exact andChoose_packingPoint s _
  · exact (finishLine s _ _).trans (choose _)

theorem afterFailedSense (k : SenseKind) (m : ModuleId) : BlockRun s (s.afterFailedSense k m) := by
  have hcancel : BlockRun s (match s.engine.cancelled with
      | some w => s.endCancel w
      | none => s.kick) := by
    split
    · exact endCancel s _
    · exact kick s
  cases k with
  | sweep => exact (sweepFaulted s m).trans (continueSweep _)
  | pre => exact hcancel
  | verify => exact hcancel
  | cancel => exact hcancel
  | audit => exact leaveAudit s
  | _ => exact continueReturn s

theorem returnToService (m : ModuleId) : BlockRun s (s.returnToService m) := by
  unfold State.returnToService
  split
  · exact (setEngine s _).trans (continueSweep _)
  · exact (moduleChanged s m _).trans ((foldl _ addReturn _ _).trans (kickReturn _))
  · exact .refl
  · exact .refl
  · exact .refl

theorem failSelfTest (m : ModuleId) : BlockRun s (s.failSelfTest m) := by
  unfold State.failSelfTest
  dsimp only
  split
  · exact (enterFaulted s m).trans ((sweepFaulted _ m).trans (continueSweep _))
  · exact (enterFaulted s m).trans (kick _)

theorem moduleHot (m : ModuleId) : BlockRun s (s.moduleHot m) := by
  unfold State.moduleHot
  split
  · split
    · exact (suspend s _).trans (choose _)
    · exact .refl
  · exact .refl

theorem moduleCooled : BlockRun s s.moduleCooled := by
  unfold State.moduleCooled
  split
  · exact choose s
  · exact .refl

theorem cancelLine (who : Identity) (l : Line) : BlockRun s (State.cancelLine who s l) := by
  unfold State.cancelLine
  dsimp only
  split
  · exact (setWriter s _).trans (setEngine _ _)
  · exact (setWriter s _).trans ((setEngine _ _).trans (putTarget _ _ _))

theorem afterCancel (who : Identity) : BlockRun s (s.afterCancel who) := by
  unfold State.afterCancel
  split
  · split
    · exact closeDecision s _
    · exact choose s
  · exact .refl

theorem deferSet : BlockRun s s.deferSet := by
  unfold State.deferSet
  split
  · split
    · exact closeDecision s _
    · exact .refl
  · split
    · exact .refl
    · exact updRefresh s _

theorem chargerIdleSet : BlockRun s s.chargerIdleSet := by
  unfold State.chargerIdleSet
  split
  · exact single (.engine (.idle (W := fun _ => True) s _))
  · exact .refl

theorem auditSet : BlockRun s s.auditSet := by
  unfold State.auditSet
  split
  · exact setEngine s _
  · exact .refl

theorem setEffect (id : Nat) : BlockRun s (s.setEffect id) := by
  unfold State.setEffect
  split
  · exact deferSet s
  · exact compareReady s
  · exact compareReady s
  · exact chargerIdleSet s
  · exact auditSet s
  · exact .refl

/-! ### Health records, record store, settings -/

theorem clearFaults (test : FaultEntry → Bool) : BlockRun s (s.clearFaults test) := by
  unfold State.clearFaults
  dsimp only
  refine (single (.setHealth s _ fun h => ?_)).trans ((promptIf _ _).trans
    ((foldl _ clearFresh _ _).trans ((catchUp _ _).trans (kick _))))
  obtain ⟨few, once, trims, wear⟩ := h.working
  refine ⟨(List.length_filter_le _ _).trans few, ?_, trims, wear⟩
  exact once.sublist ((List.filter_sublist).map faultPin)

end BlockRun

theorem trimUpdate_mem {t : Int} (h : -32 ≤ t ∧ t ≤ 31) (u d : Nat) :
    -32 ≤ trimUpdate t u d ∧ trimUpdate t u d ≤ 31 := by
  unfold trimUpdate Config.trimGreatest Config.trimLeast
  split
  · omega
  · split <;> omega

theorem healthOk_blankHealth : HealthOk blankHealth := by
  constructor <;> simp [blankHealth]

theorem healthOk_of_loadRecord {s : State} {r : Record} (h : TablesOk s)
    (hr : loadRecord s.store.stored = some r) : HealthOk r.health := by
  unfold loadRecord at hr
  split at hr
  · cases hr
  · cases hr
  · rename_i c hc
    split at hr
    · cases hr
      exact h.stored c hc
    · cases hr

theorem inRange_defaultSettings : SettingsInRange defaultSettings := by
  constructor <;> simp [defaultSettings]

/-- A value within the range of its setting is stored; Q_READY stays at least 16 above Q_FLOOR (R102, R173). -/
theorem inRange_storeNumber {x y : Settings} {id v : Nat} (h : storeNumber x id v = some y)
    (hx : SettingsInRange x) : SettingsInRange y := by
  obtain ⟨h1, h2, h3, h4, h5, h6, h7, h8, h9, h10⟩ := hx
  unfold storeNumber at h
  split at h <;> cases h <;> constructor <;> simp only [clampTo, clampReady, raiseReady] <;> omega

theorem inRange_storeClass {x y : Settings} {id : Nat} {i : Fin 16} {k : WidthClass}
    (h : storeClass x id i k = some y) (hx : SettingsInRange x) : SettingsInRange y := by
  obtain ⟨h1, h2, h3, h4, h5, h6, h7, h8, h9, h10⟩ := hx
  unfold storeClass at h
  split at h
  · cases h; exact ⟨h1, h2, h3, h4, h5, h6, h7, h8, h9, h10⟩
  · cases h; exact ⟨h1, h2, h3, h4, h5, h6, h7, h8, h9, h10⟩
  · cases h

namespace BlockRun

variable (s : State)

theorem handBank (c : Current) (previous : Content) (b : BankId) : BlockRun s (s.handBank c previous b) := by
  unfold State.handBank State.updateTrim
  dsimp only
  have htrims : BlockRun s (s.setHealth { s.health with
      trims := s.health.trims.set b (trimUpdate (s.health.trims.get b)
        (s.classCount c previous b .underStroke) (s.classCount c previous b .disturbed)) }) := by
    refine single (.setHealth s _ fun h => ?_)
    obtain ⟨few, once, trims, wear⟩ := h.working
    refine ⟨few, once, fun i => ?_, wear⟩
    rw [Table.get_set]
    split
    · exact trimUpdate_mem (trims b) _ _
    · exact trims i
  split
  · exact htrims.trans (single (.engine (.driveLimit (W := fun _ => True) _)))
  · exact htrims

theorem loadSettings : BlockRun s s.loadSettings := by
  unfold State.loadSettings
  split
  · exact (single (.setSettings s _ fun _ => inRange_clampSettings _)).trans
      (single (.setStore _ _ fun h => ⟨h.working, h.stored, h.snapshot, h.writing⟩))
  · exact (single (.setSettings s _ fun _ => inRange_defaultSettings)).trans
      (single (.setStore _ _ fun h => ⟨h.working, h.stored, h.snapshot, h.writing⟩))

theorem loadHealth : BlockRun s s.loadHealth := by
  unfold State.loadHealth
  split
  · rename_i r hr
    exact single (.setHealth s _ fun h => healthOk_of_loadRecord h hr)
  · exact single (.setHealth s _ fun _ => healthOk_blankHealth)

theorem detect (answers : Table Bool 8) (readings : Table Int 8) : BlockRun s (s.detect answers readings) :=
  single (.detect s answers readings)

theorem restartModules (mask : Table Bool 8) (readings : Table Int 8) :
    BlockRun s (s.restartModules mask readings) := foldl _ (fun s m => enterStarting s m _) _ s

theorem startSweep : BlockRun s s.startSweep :=
  (single (.setStage s .sweeping (Or.inl rfl))).trans ((setPage _ _).trans
    ((blankLines _ _).trans (continueSweep _)))

end BlockRun

end Sys2Proof.Machine
end

section
/-!
The ports' bounds (R158, R161, R162, R176): what each operation on one port keeps of them.
-/

namespace Sys2Proof.Machine

/-! ### Sending -/

@[simp] theorem isNotice_notice (n : Notice) : isNotice (.notice n) = true := rfl

@[simp] theorem isNotice_reply (tag : Byte) (r : Reply) : isNotice (.reply tag r) = false := rfl

theorem msb_replyCode (k : RequestKind) : (replyCode k).msb = true := by cases k <;> decide

theorem msb_replyKind (r : Reply) : (replyKind r).msb = true := by
  cases r with
  | refused k why => exact (by decide : refusedCode.msb = true)
  | _ => exact msb_replyCode _

theorem msb_noticeKind (n : Notice) : (noticeKind n).msb = false := by
  cases n <;> simp only [noticeKind] <;> decide

theorem isReplyFrame_messageFrame (m : Message) : isReplyFrame (messageFrame m) = !isNotice m := by
  cases m with
  | reply tag r => exact msb_replyKind r
  | notice n => exact msb_noticeKind n

section

variable {p : Port}

theorem held_of_eq {q : Port} (frames : q.frames = p.frames) (receiver : q.receiver = p.receiver) :
    q.held = p.held := by
  unfold Port.held
  rw [frames, receiver]

theorem held_startSend (p : Port) : (Port.startSend p).held = p.held :=
  held_of_eq (startSend_frames p) (startSend_receiver p)

theorem replies_startSend (p : Port) : (Port.startSend p).replies = p.replies := by
  unfold Port.startSend
  split
  · rename_i m rest hs hq
    simp only [Port.replies, hs, hq, Option.any_some, Option.any_none, isReplyFrame_messageFrame,
      List.countP_cons, Bool.toNat_false]
    cases isNotice m <;> simp
  · rfl

theorem waiting_startSend_le (p : Port) : (Port.startSend p).waiting ≤ p.waiting := by
  unfold Port.startSend
  split
  · rename_i m rest hs hq
    simp only [Port.waiting, hq, List.countP_cons]
    omega
  · exact le_rfl

theorem sending_startSend (p : Port) (h : (Port.startSend p).sending = none) :
    (Port.startSend p).queue = [] := by
  unfold Port.startSend at h ⊢
  split at h
  · cases h
  · rename_i hnone
    cases hq : p.queue with
    | nil => rfl
    | cons m rest => exact absurd hq (hnone m rest h)

/-- With its other bounds met, a port that begins to send meets them all. -/
theorem portOk_startSend (held : p.held ≤ 512) (waiting : p.waiting ≤ 8) (replies : p.replies ≤ 1) :
    PortOk (Port.startSend p) where
  held := by rw [held_startSend]; exact held
  waiting := (waiting_startSend_le p).trans waiting
  replies := by rw [replies_startSend]; exact replies
  sending := sending_startSend p

theorem countP_dropOldestNotice : ∀ q : List Message,
    (dropOldestNotice q).countP isNotice = q.countP isNotice - 1 ∧
      (dropOldestNotice q).countP (fun m => !isNotice m) = q.countP fun m => !isNotice m
  | [] => by simp [dropOldestNotice]
  | .notice n :: rest => by simp [dropOldestNotice, List.countP_cons]
  | .reply t r :: rest => by
      obtain ⟨h1, h2⟩ := countP_dropOldestNotice rest
      simp [dropOldestNotice, h1, h2]

theorem PortOk.pushNotice (h : PortOk p) (n : Notice) : PortOk (p.pushNotice n) := by
  obtain ⟨held, waiting, replies, _⟩ := h
  obtain ⟨hdrop, hkeep⟩ := countP_dropOldestNotice p.queue
  unfold Port.pushNotice
  dsimp only
  split
  · rename_i hfull
    refine portOk_startSend held ?_ ?_
    · simp only [Port.waiting, List.countP_append, hdrop, List.countP_cons, List.countP_nil] at *
      simp
      omega
    · simp only [Port.replies, List.countP_append, hkeep, List.countP_cons, List.countP_nil] at *
      simpa using replies
  · rename_i hroom
    refine portOk_startSend held ?_ ?_
    · simp only [Port.waiting, List.countP_append, List.countP_cons, List.countP_nil,
        Config.noticeCapacity] at *
      simp
      omega
    · simp only [Port.replies, List.countP_append, List.countP_cons, List.countP_nil] at *
      simpa using replies

theorem replies_eq_zero_iff (p : Port) : p.replies = 0 ↔ p.replyOutstanding = false := by
  unfold Port.replies Port.replyOutstanding
  rw [Nat.add_eq_zero_iff, List.countP_eq_zero, Bool.or_eq_false_iff, List.any_eq_false]
  simp

theorem PortOk.pushReply (h : PortOk p) (free : p.replyOutstanding = false) (tag : Byte) (r : Reply) :
    PortOk (p.pushReply tag r) := by
  have hnone := (replies_eq_zero_iff p).2 free
  refine portOk_startSend h.held ?_ ?_
  · have := h.waiting
    simpa [Port.waiting] using this
  · simp only [Port.replies, List.countP_append, List.countP_cons, List.countP_nil] at *
    simp
    omega

theorem replyOutstanding_of_carries {tag : Byte} {r : Reply} (h : p.carries (.reply tag r)) :
    p.replyOutstanding = true := by
  unfold Port.replyOutstanding
  rw [Bool.or_eq_true]
  rcases h with h | h
  · exact Or.inl (List.any_eq_true.2 ⟨_, h, rfl⟩)
  · right
    rw [h]
    exact isReplyFrame_messageFrame _

theorem PortOk.setLastRefusal (h : PortOk p) (why : Reason) : PortOk { p with lastRefusal := why } :=
  ⟨h.held, h.waiting, h.replies, h.sending⟩

theorem PortOk.setFlags (h : PortOk p) (x : StickyFlags) : PortOk { p with flags := x } :=
  ⟨h.held, h.waiting, h.replies, h.sending⟩

/-- A frame taken leaves room. -/
theorem PortOk.tail (h : PortOk p) : PortOk { p with frames := p.frames.tail } := by
  refine ⟨le_trans ?_ h.held, h.waiting, h.replies, h.sending⟩
  unfold Port.held
  cases p.frames <;> simp

/-- The frame in sending is out, and the next begins (R158). -/
theorem PortOk.sent (h : PortOk p) : PortOk (Port.startSend { p with sending := none }) := by
  refine portOk_startSend h.held h.waiting (le_trans ?_ h.replies)
  simp [Port.replies]

theorem portOk_freshPort : PortOk freshPort := by
  constructor <;> simp [freshPort, Port.held, receiverHeld, Port.waiting, Port.replies]

/-! ### Receiving -/

theorem held_discard_le (p : Port) : p.discard.held ≤ p.held := by
  simp [Port.discard, setLinkError, Port.held, receiverHeld]

theorem PortOk.discard (h : PortOk p) : PortOk p.discard :=
  ⟨(held_discard_le p).trans h.held, h.waiting, h.replies, h.sending⟩

theorem checkFrame_eq (p : Port) (n k t : Byte) (payload : List Byte) (crc : BitVec 16) :
    p.checkFrame n k t payload crc = p.discard ∨
      p.checkFrame n k t payload crc =
        { p with receiver := .hunt, frames := p.frames ++ [⟨k, t, payload, crc⟩] } := by
  unfold Port.checkFrame
  split
  · exact Or.inr rfl
  · exact Or.inl rfl

/-- One byte more is held at the most (R161). -/
theorem held_advance_le (p : Port) (b : Byte) : (p.advance b).held ≤ p.held + 1 := by
  have hdiscard := held_discard_le p
  unfold Port.advance
  split <;> rename_i hr
  · split
    · simp [Port.held, receiverHeld, hr]
    · omega
  · split
    · simp [Port.held, receiverHeld, hr]
    · omega
  · simp [Port.held, receiverHeld, hr]
  · split <;> simp [Port.held, receiverHeld, hr]
  · split <;> simp [Port.held, receiverHeld, hr] <;> omega
  · simp [Port.held, receiverHeld, hr]; omega
  · rename_i n k t payload high
    rcases checkFrame_eq p n k t payload (high ++ b) with h | h
    · rw [h]; omega
    · rw [h]
      simp [Port.held, receiverHeld, hr, frameSize]
      omega

/-- A byte changes the receiver, the complete frames and the flags alone. -/
theorem advance_eq (p : Port) (b : Byte) :
    p.advance b = { p with
      receiver := (p.advance b).receiver
      frames := (p.advance b).frames
      flags := (p.advance b).flags } := by
  unfold Port.advance
  split
  · split <;> rfl
  · split <;> rfl
  · rfl
  · split <;> rfl
  · split <;> rfl
  · rfl
  · rename_i n k t payload high hr
    rcases checkFrame_eq p n k t payload (high ++ b) with h | h
    · rw [h]; rfl
    · rw [h]

theorem PortOk.advance (h : PortOk p) (b : Byte) (room : (p.advance b).held ≤ 512) : PortOk (p.advance b) := by
  refine ⟨room, ?_, ?_, ?_⟩ <;> rw [advance_eq]
  · exact h.waiting
  · exact h.replies
  · exact h.sending

theorem PortOk.receive (h : PortOk p) (b : Byte) : PortOk (p.receive b) := by
  unfold Port.receive
  split
  · exact h.discard
  · rename_i hkept
    refine h.advance b ?_
    have hroom := held_advance_le p b
    by_cases hfull : 512 ≤ p.held
    · have hlost : keepsByte p.receiver b = false := by
        simpa [Config.receiveBuffer, hfull] using hkept
      have hhunt : p.receiver = .hunt ∧ b ≠ 0xC3 := by
        simpa [keepsByte] using hlost
      have hsame : p.advance b = p := by simp only [Port.advance, hhunt.1, if_neg hhunt.2]
      rw [hsame]
      exact h.held
    · omega

end

end Sys2Proof.Machine
end

section
/-!
The pane table (R33 to R38): how a record is found and replaced, and that a split, a merge and a change of owner keep
the table covering every line once.
-/

namespace Sys2Proof.Machine

/-! ### Records by their ids -/

section

variable {before after rest : List Pane} {p : Pane}

theorem id_ne_of_nodup (h : ((before ++ p :: rest).map (·.id)).Nodup) :
    (∀ x ∈ before, x.id ≠ p.id) ∧ ∀ x ∈ rest, x.id ≠ p.id := by
  rw [List.map_append, List.map_cons, List.nodup_append] at h
  obtain ⟨-, hrest, hdisjoint⟩ := h
  refine ⟨fun x hx => hdisjoint _ (List.mem_map_of_mem hx) _ List.mem_cons_self, fun x hx he => ?_⟩
  exact (List.nodup_cons.1 hrest).1 (he ▸ List.mem_map_of_mem hx)

/-- A record is found by its id. -/
theorem find?_id (h : ((before ++ p :: rest).map (·.id)).Nodup) {id : Nat} (hid : p.id.val = id) :
    (before ++ p :: rest).find? (fun x => x.id.val == id) = some p := by
  have hbefore := (id_ne_of_nodup h).1
  rw [List.find?_append, List.find?_eq_none.2, Option.none_or, List.find?_cons_of_pos (by simp [hid])]
  intro x hx
  have hne : x.id.val ≠ p.id.val := fun he => hbefore x hx (Fin.ext he)
  simpa [← hid] using hne

theorem findPane_eq_none_iff (s : State) (id : Byte) :
    s.findPane id = none ↔ ∀ p ∈ s.panes, p.id.val ≠ id.toNat := by
  simp [State.findPane]

/-- The record a byte names, with the records around it. -/
theorem findPane_eq_some {s : State} {id : Byte} {p : Pane} (h : s.findPane id = some p) :
    p.id.val = id.toNat ∧ ∃ before rest, s.panes = before ++ p :: rest := by
  have hid := List.find?_some h
  exact ⟨by simpa using hid, List.append_of_mem (List.mem_of_find?_eq_some h)⟩

theorem replacePane_eq (h : ((before ++ p :: rest).map (·.id)).Nodup) (new : Pane) :
    replacePane (before ++ p :: rest) p.id new = before ++ new :: rest := by
  obtain ⟨hbefore, hrest⟩ := id_ne_of_nodup h
  have hsame : ∀ ps : List Pane, (∀ x ∈ ps, x.id ≠ p.id) →
      ps.map (fun x => if x.id = p.id then new else x) = ps := by
    intro ps hps
    exact (List.map_congr_left fun x hx => if_neg (hps x hx)).trans (List.map_id ps)
  simp only [replacePane, List.map_append, List.map_cons, if_true, hsame _ hbefore, hsame _ hrest]

/-- The record of a pane that a split leaves below the line. -/
def lowerPart (p : Pane) (at_ : Line) : Pane := { p with last := ⟨at_.val - 1, by omega⟩ }

/-- The record of the pane that a split makes from the line on. -/
def upperPart (p : Pane) (at_ : Line) (new : Fin 8) : Pane := ⟨new, at_, p.last, p.owner⟩

theorem splitPanes_eq (h : ((before ++ p :: rest).map (·.id)).Nodup) (at_ : Line) (new : Fin 8) :
    splitPanes (before ++ p :: rest) p at_ new =
      before ++ lowerPart p at_ :: upperPart p at_ new :: rest := by
  obtain ⟨hbefore, hrest⟩ := id_ne_of_nodup h
  have hsame : ∀ ps : List Pane, (∀ x ∈ ps, x.id ≠ p.id) → splitPanes ps p at_ new = ps := by
    intro ps hps
    unfold splitPanes
    rw [List.flatMap_congr fun x hx => if_neg (hps x hx)]
    simp
  have happend : ∀ xs ys : List Pane,
      splitPanes (xs ++ ys) p at_ new = splitPanes xs p at_ new ++ splitPanes ys p at_ new :=
    fun xs ys => List.flatMap_append
  rw [happend, hsame _ hbefore, ← List.singleton_append, happend, hsame _ hrest]
  simp [splitPanes, lowerPart, upperPart]

theorem mergePanes_eq {q : Pane} (h : ((before ++ p :: q :: rest).map (·.id)).Nodup) :
    mergePanes (before ++ p :: q :: rest) p q = before ++ { p with last := q.last } :: rest := by
  obtain ⟨hbefore, hrest⟩ := id_ne_of_nodup h
  have h' : (((before ++ [p]) ++ q :: rest).map (·.id)).Nodup := by simpa using h
  obtain ⟨hbefore', hrest'⟩ := id_ne_of_nodup h'
  have hsame : ∀ ps : List Pane, (∀ x ∈ ps, x.id ≠ p.id) → (∀ x ∈ ps, x.id ≠ q.id) →
      mergePanes ps p q = ps := by
    intro ps hp hq
    unfold mergePanes
    rw [List.filter_eq_self.2 (by simpa using hq)]
    exact (List.map_congr_left fun x hx => if_neg (hp x hx)).trans (List.map_id ps)
  have happend : ∀ xs ys : List Pane, mergePanes (xs ++ ys) p q = mergePanes xs p q ++ mergePanes ys p q := by
    intro xs ys
    simp [mergePanes]
  have hpq : mergePanes [p, q] p q = [{ p with last := q.last }] := by
    have hne : p.id ≠ q.id := hbefore' p (by simp)
    simp [mergePanes, hne]
  rw [show before ++ p :: q :: rest = before ++ ([p, q] ++ rest) from rfl, happend, happend, hpq,
    hsame _ hbefore fun x hx => hbefore' x (by simp [hx]),
    hsame _ (fun x hx => hrest x (by simp [hx])) hrest']
  rfl

end

/-! ### The cover of the lines -/

/-- Records replaced by others that cover the same lines. -/
theorem panesCover_replace {xs ys : List Pane} (h : ∀ n, panesCover n xs → panesCover n ys)
    (before : List Pane) : ∀ n, panesCover n (before ++ xs) → panesCover n (before ++ ys) := by
  induction before with
  | nil => exact h
  | cons p before ih =>
    rintro n ⟨hfirst, hle, hrest⟩
    exact ⟨hfirst, hle, ih _ hrest⟩

/-- The part of a cover behind some records is a cover. -/
theorem panesCover_of_append {xs : List Pane} (before : List Pane) :
    ∀ n, panesCover n (before ++ xs) → ∃ m, panesCover m xs := by
  induction before with
  | nil => exact fun n h => ⟨n, h⟩
  | cons p before ih => exact fun n h => ih _ h.2.2

theorem le_first_of_panesCover {xs : List Pane} : ∀ n, panesCover n xs → ∀ x ∈ xs, n ≤ x.first.val := by
  induction xs with
  | nil => simp
  | cons p xs ih =>
    rintro n ⟨hfirst, hle, hrest⟩ x hx
    rcases List.mem_cons.1 hx with rfl | hx
    · exact hfirst.ge
    · have hx := ih _ hrest x hx
      have hle : p.first.val ≤ p.last.val := hle
      omega

/-- Records earlier in the table lie before those later in it. -/
theorem panesCover_pairwise {xs : List Pane} : ∀ n, panesCover n xs →
    xs.Pairwise fun a b => a.last.val < b.first.val := by
  induction xs with
  | nil => exact fun _ _ => List.Pairwise.nil
  | cons p xs ih =>
    rintro n ⟨_, _, hrest⟩
    exact List.pairwise_cons.2 ⟨fun x hx => le_first_of_panesCover _ hrest x hx, ih _ hrest⟩

theorem panesCover_le {xs : List Pane} : ∀ n, panesCover n xs → ∀ x ∈ xs, x.first.val ≤ x.last.val := by
  induction xs with
  | nil => simp
  | cons p xs ih =>
    rintro n ⟨_, hle, hrest⟩ x hx
    rcases List.mem_cons.1 hx with rfl | hx
    · exact hle
    · exact ih _ hrest x hx

/-- Every line lies in some record. -/
theorem exists_paneHas_of_panesCover {xs : List Pane} (l : Line) : ∀ n, panesCover n xs → n ≤ l.val →
    ∃ p ∈ xs, p.first ≤ l ∧ l ≤ p.last := by
  induction xs with
  | nil =>
    intro n h hl
    have hn : n = 24 := h
    omega
  | cons p xs ih =>
    rintro n ⟨hfirst, hle, hrest⟩ hl
    by_cases hin : l.val ≤ p.last.val
    · exact ⟨p, by simp, by rw [Fin.le_def]; omega, hin⟩
    · obtain ⟨q, hq, hhas⟩ := ih _ hrest (by omega)
      exact ⟨q, List.mem_cons_of_mem _ hq, hhas⟩

/-- No line lies in two records. -/
theorem PanesOk.unique {panes : List Pane} (h : PanesOk panes) {p q : Pane} (hp : p ∈ panes) (hq : q ∈ panes)
    {l : Line} (hpl : paneHas p l = true) (hql : paneHas q l = true) : p = q := by
  simp only [paneHas, Bool.and_eq_true, decide_eq_true_eq, Fin.le_def] at hpl hql
  have hsorted := panesCover_pairwise 0 h.cover
  obtain ⟨before, rest, rfl⟩ := List.append_of_mem hp
  obtain ⟨-, hrest, hbefore⟩ := List.pairwise_append.1 hsorted
  rcases List.mem_append.1 hq with hq | hq
  · have := hbefore q hq p List.mem_cons_self
    omega
  · rcases List.mem_cons.1 hq with rfl | hq
    · rfl
    · have := (List.pairwise_cons.1 hrest).1 q hq
      omega

/-- The record behind `p` in the table is the one that begins behind its last line. -/
theorem find?_following {before rest : List Pane} {p q : Pane} {n : Nat}
    (h : panesCover n (before ++ p :: q :: rest)) :
    (before ++ p :: q :: rest).find? (fun x => x.first.val == p.last.val + 1) = some q := by
  have hsorted := panesCover_pairwise n h
  have hle := panesCover_le n h
  obtain ⟨m, -, hple, hq, -⟩ := panesCover_of_append before n h
  rw [List.find?_append, List.find?_eq_none.2, Option.none_or, List.find?_cons_of_neg,
    List.find?_cons_of_pos (by simp [hq])]
  · have hple : p.first.val ≤ p.last.val := hple
    simp only [beq_iff_eq]
    omega
  · intro x hx
    have hlt := (List.pairwise_append.1 hsorted).2.2 x hx p (by simp)
    have hxle := hle x (by simp [hx])
    have hple : p.first.val ≤ p.last.val := hple
    simp only [beq_iff_eq]
    omega

/-- Behind the last record nothing begins. -/
theorem find?_following_last {before : List Pane} {p : Pane} {n : Nat} (h : panesCover n (before ++ [p])) :
    (before ++ [p]).find? (fun x => x.first.val == p.last.val + 1) = none := by
  obtain ⟨m, -, -, hlast⟩ := panesCover_of_append before n h
  have hlast : p.last.val + 1 = 24 := hlast
  rw [List.find?_eq_none]
  intro x _
  have := x.first.isLt
  simp only [beq_iff_eq]
  omega

/-! ### Split, merge, change of owner -/

section

variable {before rest : List Pane} {p : Pane}

theorem PanesOk.split (h : PanesOk (before ++ p :: rest)) {at_ : Line} {new : Fin 8}
    (first : p.first < at_) (last : at_ ≤ p.last) (free : ∀ x ∈ before ++ p :: rest, x.id ≠ new) :
    PanesOk (before ++ lowerPart p at_ :: upperPart p at_ new :: rest) where
  some := by simp
  cover := by
    refine panesCover_replace (xs := p :: rest) (fun n hn => ?_) before 0 h.cover
    obtain ⟨hfirst, hle, hrest⟩ := hn
    have hlt : p.first.val < at_.val := first
    refine ⟨hfirst, ?_, ?_, last, hrest⟩
    · show p.first.val ≤ at_.val - 1
      omega
    · show at_.val = at_.val - 1 + 1
      omega
  ids := by
    have hperm : ((before ++ lowerPart p at_ :: upperPart p at_ new :: rest).map (·.id)).Perm
        (new :: (before ++ p :: rest).map (·.id)) := by
      have hmid : (before ++ lowerPart p at_ :: upperPart p at_ new :: rest).Perm
          (upperPart p at_ new :: (before ++ lowerPart p at_ :: rest)) := by
        have := List.perm_middle (a := upperPart p at_ new) (l₁ := before ++ [lowerPart p at_])
          (l₂ := rest)
        simpa using this
      simpa [lowerPart, upperPart] using hmid.map (·.id)
    refine hperm.nodup_iff.2 (List.nodup_cons.2 ⟨?_, h.ids⟩)
    intro hmem
    obtain ⟨x, hx, hid⟩ := List.mem_map.1 hmem
    exact free x hx hid

theorem PanesOk.merge {q : Pane} (h : PanesOk (before ++ p :: q :: rest)) :
    PanesOk (before ++ { p with last := q.last } :: rest) where
  some := by simp
  cover := by
    refine panesCover_replace (xs := p :: q :: rest) (fun n hn => ?_) before 0 h.cover
    obtain ⟨hfirst, hple, hq, hqle, hrest⟩ := hn
    have hple : p.first.val ≤ p.last.val := hple
    have hqle : q.first.val ≤ q.last.val := hqle
    refine ⟨hfirst, ?_, hrest⟩
    show p.first.val ≤ q.last.val
    omega
  ids := by
    refine h.ids.sublist ?_
    simp only [List.map_append, List.map_cons]
    exact (List.Sublist.refl _).append ((List.sublist_cons_self _ _).cons_cons _)

theorem PanesOk.setOwner (h : PanesOk (before ++ p :: rest)) (new : Identity) :
    PanesOk (before ++ { p with owner := new } :: rest) where
  some := by simp
  cover := panesCover_replace (xs := p :: rest) (ys := { p with owner := new } :: rest)
    (fun _ hn => hn) before 0 h.cover
  ids := by simpa using h.ids

end

/-- Owners may change all over the table. -/
theorem PanesOk.map_owner {panes : List Pane} (h : PanesOk panes) {g : Pane → Pane}
    (id : ∀ p, (g p).id = p.id) (first : ∀ p, (g p).first = p.first) (last : ∀ p, (g p).last = p.last) :
    PanesOk (panes.map g) where
  some := by simpa using h.some
  cover := by
    have hcover : ∀ (ps : List Pane) (n : Nat), panesCover n ps → panesCover n (ps.map g) := by
      intro ps
      induction ps with
      | nil => exact fun _ hn => hn
      | cons p ps ih =>
        rintro n ⟨hfirst, hle, hrest⟩
        refine ⟨by rw [first]; exact hfirst, by rw [first, last]; exact hle, ?_⟩
        rw [last]
        exact ih _ hrest
    exact hcover _ _ h.cover
  ids := by
    rw [List.map_map]
    exact (List.map_congr_left fun p _ => id p) ▸ h.ids

theorem panesOk_initialPanes : PanesOk initialPanes where
  some := by simp [initialPanes]
  cover := ⟨rfl, by decide, rfl⟩
  ids := by simp [initialPanes]

theorem owner_revertPanes {panes : List Pane} {p : Pane} (h : p ∈ revertPanes panes) : p.owner ≠ .patron := by
  obtain ⟨q, _, rfl⟩ := List.mem_map.1 h
  split
  · simp
  · rename_i hne
    exact hne

theorem PanesOk.revert {panes : List Pane} (h : PanesOk panes) : PanesOk (revertPanes panes) :=
  h.map_owner (fun p => by split <;> rfl) (fun p => by split <;> rfl) fun p => by split <;> rfl

/-! ### The lowest free id -/

theorem lowestFreeId_eq_some_iff (panes : List Pane) (new : Fin 8) : lowestFreeId panes = some new ↔
    (∀ q ∈ panes, q.id ≠ new) ∧ ∀ i < new, ∃ q ∈ panes, q.id = i := by
  unfold lowestFreeId
  rw [List.find?_eq_some_iff_getElem]
  constructor
  · rintro ⟨hfree, n, hn, hget, hbelow⟩
    have hnew : new.val = n := by rw [← hget]; simp
    refine ⟨by simpa using hfree, fun i hi => ?_⟩
    have hin : i.val < n := by rw [← hnew]; exact hi
    have := hbelow i.val hin
    simpa using this
  · rintro ⟨hfree, hbelow⟩
    refine ⟨by simpa using hfree, new.val, by simp, by simp, fun j hj => ?_⟩
    obtain ⟨q, hq, hid⟩ := hbelow ⟨j, by omega⟩ hj
    simp only [List.getElem_finRange, Bool.not_eq_true', List.all_eq_false]
    exact ⟨q, hq, by simp [hid]⟩

end Sys2Proof.Machine
end

section
/-!
Every command as a sequence of updates. First the requests: what a service that accepts does (`Serves`), row by row;
then the events; `exec_eventRun` puts them together.
-/

namespace Sys2Proof.Machine

open Host (Outcome)

/-! ### The taking of a request -/

/-- A handler takes the oldest complete frame of a port in service whose last reply is out (R162, R179). -/
theorem takeable_eq_some_iff (s : State) (l : Link) (f : Frame) : s.takeable l = some f ↔
    s.inService l = true ∧ s.ports.resetWait = none ∧ (s.port l).replyOutstanding = false ∧
      (s.port l).frames.head? = some f := by
  unfold State.takeable
  split
  · rename_i h
    simp only [Bool.and_eq_true, Option.isNone_iff_eq_none, Bool.not_eq_true'] at h
    simp [h]
  · rename_i h
    simp only [Bool.and_eq_true, Option.isNone_iff_eq_none, Bool.not_eq_true'] at h
    simp only [false_iff, reduceCtorEq]
    rintro ⟨h1, h2, h3, _⟩
    exact h ⟨⟨h1, h2⟩, h3⟩

/-- All that the taking of a request can do: it is turned away, or served. -/
theorem take_cases {s t : State} {l : Link} {k : RequestKind} {serve : Service}
    (h : s.take l k serve = .next t) : ∃ f, s.takeable l = some f ∧ f.kind = kindCode k ∧
      ((∃ why, t = s.turnedAway l f why) ∨ (Takes s l k f ∧ serve (s.popFrame l) f = .ok t)) := by
  unfold State.take at h
  split at h
  · cases h
  · rename_i f hf
    split at h
    · rename_i hk
      dsimp only at h
      split at h
      · cases h
        exact ⟨f, hf, hk, Or.inl ⟨_, rfl⟩⟩
      · rename_i hscreen
        split at h
        · cases h
          exact ⟨f, hf, hk, Or.inl ⟨_, rfl⟩⟩
        · rename_i u hu
          cases h
          exact ⟨f, hf, hk, Or.inr ⟨⟨hf, hk, hscreen⟩, hu⟩⟩
    · cases h

/-- A taking stops under one name. -/
theorem take_refused {s : State} {l : Link} {k : RequestKind} {serve : Service} {r : Refusal}
    (h : s.take l k serve = .refused r) : r = .notAtHandler := by
  unfold State.take at h
  split at h
  · cases h; rfl
  · split at h
    · dsimp only at h
      split at h
      · cases h
      · split at h <;> cases h
    · cases h; rfl

theorem take_ne_fault {s : State} {l : Link} {k : RequestKind} {serve : Service} {r : Fault} :
    s.take l k serve ≠ .fault r := by
  intro h
  unfold State.take at h
  split at h
  · cases h
  · split at h
    · dsimp only at h
      split at h
      · cases h
      · split at h <;> cases h
    · cases h

theorem inService_popFrame (s : State) (l k : Link) : (s.popFrame l).inService k = s.inService k := by
  cases l <;> cases k <;> rfl

theorem replyOutstanding_popFrame (s : State) (l : Link) :
    ((s.popFrame l).port l).replyOutstanding = (s.port l).replyOutstanding := by
  cases l <;> rfl

/-- A port in service changes within its bounds. -/
theorem EventMove.servedPort (s : State) {l : Link} (served : s.inService l = true) {p : Port}
    (ok : PortOk (s.port l) → PortOk p) : EventMove s (s.setPort l p) :=
  .port s l p ok fun h => by rw [served] at h; cases h

/-- The taking of a frame is one update of its port. -/
theorem popFrame_move (s : State) (l : Link) (served : s.inService l = true) : EventMove s (s.popFrame l) :=
  .servedPort s served fun h => h.tail

/-- An answer is one update of its port. -/
theorem sendReply_move (s : State) (l : Link) (tag : Byte) (r : Reply) (served : s.inService l = true)
    (free : (s.port l).replyOutstanding = false) : EventMove s (s.sendReply l tag r) :=
  .servedPort s served fun h => h.pushReply free tag r

theorem turnedAway_run {s : State} {l : Link} {f : Frame} (h : s.takeable l = some f) (why : Reason) :
    EventRun s (s.turnedAway l f why) := by
  obtain ⟨served, _, free, _⟩ := (takeable_eq_some_iff s l f).1 h
  refine (Relation.ReflTransGen.single (popFrame_move s l served)).tail
    (.servedPort _ ?_ fun h => (h.pushReply ?_ _ _).setLastRefusal why)
  · rw [inService_popFrame, served]
  · rw [replyOutstanding_popFrame, free]

/-- What the service of a request on link `l`, taken with the frame `f`, does when it accepts: a sequence of updates
that leaves the frames in the buffer as they are, and after which a reply is to be sent. -/
structure Serves (l : Link) (f : Frame) (s u : State) : Prop where
  run : s.inService l = true → (s.port l).replyOutstanding = false → EventRun s u
  frames : (u.port l).frames = (s.port l).frames
  answers : ∃ r, (u.port l).carries (.reply f.tag r)

/-- An answer is given between updates of the blocks. -/
theorem Serves.of_reply {l : Link} {f : Frame} {s v u : State} (r : Reply) (before : BlockRun s v)
    (after : BlockRun (v.sendReply l f.tag r) u) (ports : v.ports = s.ports := by rfl)
    (stage : v.stage = s.stage := by rfl) :
    Serves l f s u where
  run served free := by
    refine before.event.trans ((Relation.ReflTransGen.single (sendReply_move v l f.tag r ?_ ?_)).trans
      after.event)
    · rw [← served]
      cases l <;> simp only [State.inService, State.powered, ports, stage]
    · rw [← free, port_of_ports_eq ports]
  frames := by
    rw [(after.port l).frames, State.sendReply, port_setPort_same, Port.pushReply, startSend_frames,
      port_of_ports_eq ports]
  answers := by
    refine ⟨r, (after.port l).carries _ _ ?_⟩
    rw [State.sendReply, port_setPort_same]
    exact carries_pushReply _ _ _

/-- An answer is given first, and updates of the blocks may follow. -/
theorem Serves.reply_first {l : Link} {f : Frame} {s u : State} (r : Reply)
    (after : BlockRun (s.sendReply l f.tag r) u) : Serves l f s u := .of_reply r .refl after

/-- An answer is all the service does. -/
theorem Serves.reply_only {l : Link} {f : Frame} {s u : State} (r : Reply)
    (h : Except.ok (s.sendReply l f.tag r) = (Except.ok u : Except Reason State)) : Serves l f s u := by
  cases h
  exact .reply_first r .refl

/-! ### The services, row by row -/

section

variable {l : Link} {f : Frame} {s u : State}

theorem serveIdentify_serves (h : serveIdentify l s f = .ok u) : Serves l f s u := .reply_only _ h

theorem serveStatus_serves (h : serveStatus l s f = .ok u) : Serves l f s u := by
  cases h
  refine ⟨fun served free => ?_, ?_, .status (s.statusReport l), ?_⟩
  · have hin : (s.setPort l { s.port l with flags := clearFlags }).inService l = true := by
      rw [← served]; cases l <;> rfl
    refine (Relation.ReflTransGen.single (.servedPort s served fun h => h.setFlags _)).tail
      (sendReply_move _ l f.tag _ hin ?_)
    rw [port_setPort_same]
    exact free
  · rw [State.sendReply, port_setPort_same, port_setPort_same, Port.pushReply, startSend_frames]
  · rw [State.sendReply, port_setPort_same]
    exact carries_pushReply _ _ _

theorem serveReset_serves (h : serveReset l s f = .ok u) : Serves l f s u := by
  cases h
  have hport : ∀ (t : State) (w : Option ResetWait),
      (t.setPorts { t.ports with resetWait := w }).port l = t.port l := by
    intro t w; cases l <;> rfl
  refine ⟨fun served free => ?_, ?_, .reset, ?_⟩
  · exact (Relation.ReflTransGen.single (sendReply_move s l f.tag _ served free)).tail (.resetWait _ _)
  · rw [hport, State.sendReply, port_setPort_same, Port.pushReply, startSend_frames]
  · rw [hport, State.sendReply, port_setPort_same]
    exact carries_pushReply _ _ _

theorem serveGet_serves (h : serveGet l s f = .ok u) : Serves l f s u := by
  unfold serveGet at h
  split at h
  · split at h
    · exact .reply_only _ h
    · split at h
      · exact .reply_only _ h
      · cases h
  · cases h

theorem serveSet_serves (h : serveSet l s f = .ok u) : Serves l f s u := by
  unfold serveSet at h
  split at h
  · dsimp only at h
    split at h
    · rename_i x hx
      cases h
      exact .of_reply _ (.single (.setSettings s x (inRange_storeNumber hx)))
        ((BlockRun.setEffect _ _).trans (BlockRun.settle _))
    · split at h
      · cases h
      · split at h
        · split at h
          · cases h
          · split at h
            · cases h
            · rename_i x hx
              cases h
              exact .of_reply _ (.single (.setSettings s x (inRange_storeClass hx))) .refl
        · cases h
  · cases h

theorem serveWriteCells_serves (h : serveWriteCells l s f = .ok u) : Serves l f s u := by
  unfold serveWriteCells at h
  split at h
  · split at h
    · split at h
      · dsimp only at h
        split at h
        · cases h
          exact .of_reply _ (BlockRun.putStaging s _ _) .refl
        · exact .reply_only _ h
      · cases h
    · cases h
  · cases h

theorem serveFillLines_serves (h : serveFillLines l s f = .ok u) : Serves l f s u := by
  unfold serveFillLines at h
  split at h
  · split at h
    · split at h
      · dsimp only at h
        cases h
        rw [foldl_putStaging]
        exact .of_reply _ (BlockRun.setPage s _) .refl
      · cases h
    · cases h
  · cases h

theorem serveShow_serves (h : serveShow l s f = .ok u) : Serves l f s u := by
  unfold serveShow at h
  split at h
  · cases h
  · cases h
    exact .reply_first _ ((BlockRun.commit _ _ _).trans (BlockRun.settle _))

theorem serveCancel_serves (h : serveCancel l s f = .ok u) : Serves l f s u := by
  unfold serveCancel at h
  split at h
  · cases h
  · cases h
    exact .reply_first _ ((BlockRun.promptIf _ _).trans
      ((BlockRun.foldl _ (fun s l => BlockRun.cancelLine s _ l) _ _).trans
        ((BlockRun.afterCancel _ _).trans (BlockRun.settle _))))

theorem serveReadImage_serves (h : serveReadImage l s f = .ok u) : Serves l f s u := by
  unfold serveReadImage at h
  split at h
  · split at h
    · exact .reply_only _ h
    · cases h
  · cases h

theorem servePaneList_serves (h : servePaneList l s f = .ok u) : Serves l f s u := .reply_only _ h

/-- A split keeps the pane table (R35). -/
theorem paneTableOk_split {p : Pane} {before rest : List Pane} {at_ : Line} {new : Fin 8} (h : PaneTableOk s)
    (hpanes : s.panes = before ++ p :: rest) (first : p.first < at_) (last : at_ ≤ p.last)
    (free : lowestFreeId s.panes = some new) : PaneTableOk (s.setPanes (splitPanes s.panes p at_ new)) := by
  obtain ⟨table, patron⟩ := h
  have hfree := ((lowestFreeId_eq_some_iff _ _).1 free).1
  rw [hpanes] at table patron hfree ⊢
  rw [splitPanes_eq table.ids]
  refine ⟨table.split first last hfree, fun absent q hq => ?_⟩
  have howner := patron absent
  simp only [State.setPanes_panes, List.mem_append, List.mem_cons] at hq
  rcases hq with hq | rfl | rfl | hq
  · exact howner q (by simp [hq])
  · exact howner p (by simp)
  · exact howner p (by simp)
  · exact howner q (by simp [hq])

theorem servePaneSplit_serves (h : servePaneSplit l s f = .ok u) : Serves l f s u := by
  unfold servePaneSplit at h
  split at h
  · split at h
    · cases h
    · rename_i p hp
      split at h
      · cases h
      · split at h
        · rename_i hin
          split at h
          · cases h
          · rename_i new hnew
            cases h
            obtain ⟨-, before, rest, hpanes⟩ := findPane_eq_some hp
            exact .of_reply _
              (.single (.setPanes s _ fun ok => paneTableOk_split ok hpanes hin.1 hin.2 hnew))
              ((BlockRun.promptIf _ _).trans (BlockRun.settle _))
        · cases h
  · cases h

/-- A merge keeps the pane table (R36). -/
theorem paneTableOk_merge {p q : Pane} {before rest : List Pane} (h : PaneTableOk s)
    (hpanes : s.panes = before ++ p :: rest)
    (following : s.panes.find? (fun x => x.first.val == p.last.val + 1) = some q) :
    PaneTableOk (s.setPanes (mergePanes s.panes p q)) := by
  obtain ⟨table, patron⟩ := h
  rw [hpanes] at table patron following ⊢
  cases rest with
  | nil => rw [find?_following_last table.cover] at following; cases following
  | cons r rest =>
    rw [find?_following table.cover] at following
    cases following
    rw [mergePanes_eq table.ids]
    refine ⟨table.merge, fun absent x hx => ?_⟩
    have howner := patron absent
    simp only [State.setPanes_panes, List.mem_append, List.mem_cons] at hx
    rcases hx with hx | rfl | hx
    · exact howner x (by simp [hx])
    · exact howner p (by simp)
    · exact howner x (by simp [hx])

theorem servePaneMerge_serves (h : servePaneMerge l s f = .ok u) : Serves l f s u := by
  unfold servePaneMerge at h
  split at h
  · split at h
    · cases h
    · rename_i p hp
      split at h
      · cases h
      · rename_i q hq
        split at h
        · cases h
          obtain ⟨-, before, rest, hpanes⟩ := findPane_eq_some hp
          exact .of_reply _ (.single (.setPanes s _ fun ok => paneTableOk_merge ok hpanes hq))
            ((BlockRun.promptIf _ _).trans (BlockRun.settle _))
        · cases h
  · cases h

/-- A grant that its check allows keeps the pane table (R37, R38). -/
theorem paneTableOk_grant {p : Pane} {before rest : List Pane} {new : Identity} (h : PaneTableOk s)
    (hpanes : s.panes = before ++ p :: rest) (allowed : new = .patron → s.ports.presence = true) :
    PaneTableOk (s.setPanes (replacePane s.panes p.id { p with owner := new })) := by
  obtain ⟨table, patron⟩ := h
  rw [hpanes] at table patron ⊢
  rw [replacePane_eq table.ids]
  refine ⟨table.setOwner new, fun absent x hx => ?_⟩
  have absent : s.ports.presence = false := absent
  have howner := patron absent
  simp only [State.setPanes_panes, List.mem_append, List.mem_cons] at hx
  rcases hx with hx | rfl | hx
  · exact howner x (by simp [hx])
  · intro he
    have he : new = .patron := he
    rw [allowed he] at absent
    cases absent
  · exact howner x (by simp [hx])

theorem grantCheck_presence {p : Pane} {new : Identity} (h : s.grantCheck l p new = none) :
    new = .patron → s.ports.presence = true := by
  intro hnew
  unfold State.grantCheck at h
  split at h
  · cases h
  · split at h
    · cases h
    · rename_i hno
      by_contra hp
      exact hno ⟨hnew, by simpa using hp⟩

theorem servePaneGrant_serves (h : servePaneGrant l s f = .ok u) : Serves l f s u := by
  unfold servePaneGrant at h
  split at h
  · split at h
    · cases h
    · rename_i p hp
      split at h
      · cases h
      · split at h
        · cases h
        · rename_i new _ _ hcheck
          obtain ⟨-, before, rest, hpanes⟩ := findPane_eq_some hp
          have hallowed := grantCheck_presence hcheck
          dsimp only at h
          split at h
          · exact .reply_only _ h
          · cases h
            refine .reply_first (.paneGranted p.id new) (Relation.ReflTransGen.trans ?_ (BlockRun.settle _))
            refine (BlockRun.single (.setPanes _ _ fun ok => ?_)).trans
              ((BlockRun.stagingToTarget _ _).trans (BlockRun.promptIf _ _))
            refine paneTableOk_grant (before := before) (rest := rest) ok ?_ fun hnew => ?_
            · rw [State.sendReply, setPort_panes]; exact hpanes
            · rw [State.sendReply, setPort_presence]; exact hallowed hnew
  · cases h

theorem serveFaultList_serves (h : serveFaultList l s f = .ok u) : Serves l f s u := by
  unfold serveFaultList at h
  split at h
  · split at h
    · exact .reply_only _ h
    · cases h
  · cases h

theorem serveFaultClear_serves (h : serveFaultClear l s f = .ok u) : Serves l f s u := by
  unfold serveFaultClear at h
  split at h
  · cases h
  · dsimp only at h
    split at h
    · exact .reply_only _ h
    · cases h
      exact .reply_first _ ((BlockRun.clearFaults _ _).trans (BlockRun.settle _))

theorem serveTrimList_serves (h : serveTrimList l s f = .ok u) : Serves l f s u := .reply_only _ h

theorem serveWearRead_serves (h : serveWearRead l s f = .ok u) : Serves l f s u := by
  unfold serveWearRead at h
  split at h
  · dsimp only at h
    split at h
    · exact .reply_only _ h
    · cases h
  · cases h

/-- The snapshot of a commit lies within the bounds of the working tables (R149, R150). -/
theorem tablesOk_commit {s : State} (h : TablesOk s) :
    TablesOk (s.setStore { s.store with stored := .unfinished, commit := some s.snapshot }) where
  working := h.working
  stored c hc := by cases hc
  snapshot c hc := by
    obtain rfl := Option.some.inj hc
    exact h.working
  writing _ := rfl

theorem serveRecordCommit_serves (h : serveRecordCommit l s f = .ok u) : Serves l f s u := by
  unfold serveRecordCommit at h
  split at h
  · cases h
  · cases h
    exact .of_reply _ (.single (.setStore s _ tablesOk_commit)) .refl

theorem serveModuleReset_serves {reading : Int} (h : serveModuleReset l reading s f = .ok u) :
    Serves l f s u := by
  unfold serveModuleReset at h
  split at h
  · split at h
    · cases h
    · split at h
      · cases h
      · split at h
        · cases h
        · cases h
          exact .reply_first _ ((BlockRun.enterStarting _ _ _).trans
            ((BlockRun.kick _).trans (BlockRun.settle _)))
  · cases h

end

end Sys2Proof.Machine
end

section
/-!
The commands as sequences of updates (`exec_eventRun`), and the statements on how commands stop, which frames are
taken, and that a request taken is answered (R162, R179).
-/

namespace Sys2Proof.Machine

open Host (Outcome)

/-! ### Requests -/

/-- Every request row is the taking of a request by a service that answers where it accepts. -/
theorem exec_request {c : Instr} {l : Link} {k : RequestKind} (h : requestOf c = some (l, k)) :
    ∃ serve : Service, (∀ s, exec c s = s.take l k serve) ∧
      ∀ f s u, serve s f = .ok u → Serves l f s u := by
  cases c with
  | identify l => cases h; exact ⟨_, fun _ => rfl, fun _ _ _ => serveIdentify_serves⟩
  | status l => cases h; exact ⟨_, fun _ => rfl, fun _ _ _ => serveStatus_serves⟩
  | getSetting l => cases h; exact ⟨_, fun _ => rfl, fun _ _ _ => serveGet_serves⟩
  | setSetting l => cases h; exact ⟨_, fun _ => rfl, fun _ _ _ => serveSet_serves⟩
  | writeCells l => cases h; exact ⟨_, fun _ => rfl, fun _ _ _ => serveWriteCells_serves⟩
  | fillLines l => cases h; exact ⟨_, fun _ => rfl, fun _ _ _ => serveFillLines_serves⟩
  | showPanes l => cases h; exact ⟨_, fun _ => rfl, fun _ _ _ => serveShow_serves⟩
  | cancel l => cases h; exact ⟨_, fun _ => rfl, fun _ _ _ => serveCancel_serves⟩
  | readImage l => cases h; exact ⟨_, fun _ => rfl, fun _ _ _ => serveReadImage_serves⟩
  | paneList l => cases h; exact ⟨_, fun _ => rfl, fun _ _ _ => servePaneList_serves⟩
  | paneSplit l => cases h; exact ⟨_, fun _ => rfl, fun _ _ _ => servePaneSplit_serves⟩
  | paneMerge l => cases h; exact ⟨_, fun _ => rfl, fun _ _ _ => servePaneMerge_serves⟩
  | paneGrant l => cases h; exact ⟨_, fun _ => rfl, fun _ _ _ => servePaneGrant_serves⟩
  | faultList l => cases h; exact ⟨_, fun _ => rfl, fun _ _ _ => serveFaultList_serves⟩
  | faultClear l => cases h; exact ⟨_, fun _ => rfl, fun _ _ _ => serveFaultClear_serves⟩
  | trimList l => cases h; exact ⟨_, fun _ => rfl, fun _ _ _ => serveTrimList_serves⟩
  | wearRead l => cases h; exact ⟨_, fun _ => rfl, fun _ _ _ => serveWearRead_serves⟩
  | recordCommit l => cases h; exact ⟨_, fun _ => rfl, fun _ _ _ => serveRecordCommit_serves⟩
  | moduleReset l reading => cases h; exact ⟨_, fun _ => rfl, fun _ _ _ => serveModuleReset_serves⟩
  | reset l => cases h; exact ⟨_, fun _ => rfl, fun _ _ _ => serveReset_serves⟩
  | _ => cases h

theorem take_eventRun {s t : State} {l : Link} {k : RequestKind} {serve : Service}
    (hserve : ∀ f s u, serve s f = .ok u → Serves l f s u) (h : s.take l k serve = .next t) :
    EventRun s t := by
  obtain ⟨f, hf, -, ⟨why, rfl⟩ | ⟨-, hu⟩⟩ := take_cases h
  · exact turnedAway_run hf why
  · obtain ⟨served, -, free, -⟩ := (takeable_eq_some_iff s l f).1 hf
    refine (Relation.ReflTransGen.single (popFrame_move s l served)).trans ((hserve f _ t hu).run ?_ ?_)
    · rw [inService_popFrame, served]
    · rw [replyOutstanding_popFrame, free]

/-! ### Events -/

/-- A reading makes no module ABSENT (R109). -/
theorem absent_of_afterReading {x : ModuleState} {reading : Int} (h : afterReading x reading = .absent) :
    x = .absent := by
  unfold afterReading at h
  split at h
  · split at h <;> cases h
  · split at h <;> cases h
  · rfl
  · cases h
  · cases h

theorem zoneAgrees_onPresent (x y : ZoneState) (h : onPresent x = some y) : zoneAgrees ⟨y, true⟩ := by
  cases x <;> cases h <;> simp [zoneAgrees]

theorem zoneAgrees_onAbsent (x y : ZoneState) (h : onAbsent x = some y) : zoneAgrees ⟨y, false⟩ := by
  cases x <;> cases h <;> simp [zoneAgrees]

namespace EventRun

variable {s t : State}

theorem of_block {u : State} (h : BlockRun s u) (he : Outcome.next u = (Outcome.next t : Outcome State Fault Refusal)) :
    EventRun s t := by
  cases he
  exact h.event

theorem recordLoadComplete {answers : Table Bool 8} {readings : Table Int 8}
    (h : execRecordLoadComplete answers readings s = .next t) : EventRun s t := by
  unfold execRecordLoadComplete at h
  split at h
  · exact of_block ((BlockRun.loadSettings s).trans ((BlockRun.loadHealth _).trans
      ((BlockRun.detect _ _ _).trans ((BlockRun.startSweep _).trans (BlockRun.settle _))))) h
  · exact of_block ((BlockRun.loadSettings s).trans ((BlockRun.restartModules _ _ _).trans
      ((BlockRun.startSweep _).trans (BlockRun.settle _)))) h
  · cases h
  · cases h
  · cases h

theorem byteReceived {l : Link} {b : Byte} (h : execByteReceived l b s = .next t) : EventRun s t := by
  unfold execByteReceived at h
  split at h
  · rename_i served
    cases h
    exact .single (.servedPort s served fun h => h.receive b)
  · cases h; exact .refl

theorem gapTimerExpiry {l : Link} (h : execGapTimerExpiry l s = .next t) : EventRun s t := by
  unfold execGapTimerExpiry at h
  split at h
  · cases h
  · rename_i hr
    cases h
    exact .single (.port s l _ (fun h => h.discard) fun _ hfresh => absurd (by rw [hfresh]; rfl) hr)

theorem frameSent {l : Link} (h : execFrameSent l s = .next t) : EventRun s t := by
  unfold execFrameSent at h
  split at h
  · rename_i hs
    cases h
    exact .single (.port s l _ (fun h => h.sent) fun _ hfresh => by rw [hfresh] at hs; cases hs)
  · cases h

theorem presenceLost (powered : s.stage ≠ .unpowered) (h : execPresenceLost s = .next t) : EventRun s t := by
  have hpowered : s.powered = true := by simpa [State.powered] using powered
  unfold execPresenceLost at h
  rw [hpowered] at h
  split at h
  · cases h
    exact (Relation.ReflTransGen.single (.losePatron s)).trans
      (BlockRun.event ((BlockRun.stagingToTarget _ _).trans (BlockRun.updRefresh _ _)))
  · cases h

theorem presenceGained (h : execPresenceGained s = .next t) : EventRun s t := by
  unfold execPresenceGained at h
  split at h
  · cases h
  · cases h
    exact .single (.gainPatron s)

theorem unknownKindRequest {l : Link} (h : execUnknownKindRequest l s = .next t) : EventRun s t := by
  unfold execUnknownKindRequest at h
  split at h
  · cases h
  · rename_i f hf
    split at h
    · cases h
    · cases h
      exact turnedAway_run hf _

/-- The completed write stores the snapshot, which lies within the bounds (R150). -/
theorem recordWriteComplete (h : execRecordWriteComplete s = .next t) : EventRun s t := by
  unfold execRecordWriteComplete at h
  split at h
  · cases h
  · rename_i c hc
    cases h
    refine (Relation.ReflTransGen.single (.block (.setStore s _ fun ok => ?_))).trans
      ((Relation.ReflTransGen.single (.resetWait _ _)).trans (BlockRun.notify _ _ _).event)
    refine ⟨ok.working, fun d hd => ?_, fun d hd => (by cases hd), fun h => (by cases h)⟩
    cases hd
    exact ok.snapshot c hc

theorem readZone {z : ZoneId} {present : Bool} {move : ZoneState → Option ZoneState}
    (hmove : ∀ x y, move x = some y → zoneAgrees ⟨y, present⟩) (h : s.readZone z present move = .next t) :
    EventRun s t := by
  unfold State.readZone at h
  dsimp only at h
  split at h
  · cases h
  · split at h
    · rename_i unread
      refine of_block (BlockRun.putZone s _ _ fun reached _ => ?_) h
      simp [reached] at unread
    · split at h
      · cases h
      · rename_i attached
        split at h
        · cases h
        · rename_i y hy
          exact of_block (BlockRun.putZone s _ _ fun _ _ => ⟨hmove _ y hy, fun habs => absurd habs attached⟩) h

theorem armingTimerExpiry {z : ZoneId} (h : execArmingTimerExpiry z s = .next t) : EventRun s t := by
  unfold execArmingTimerExpiry at h
  dsimp only at h
  split at h
  · rename_i harming
    refine of_block ((BlockRun.putZone s _ _ fun _ ok => ?_).trans (BlockRun.touchNotice _ _ _)) h
    have hpresent := (ok.agrees z).2 (Or.inl harming)
    refine ⟨by simp [zoneAgrees, hpresent], fun habs => ?_⟩
    rw [ok.absent z habs] at harming
    cases harming
  · cases h

theorem releaseTimerExpiry {z : ZoneId} (h : execReleaseTimerExpiry z s = .next t) : EventRun s t := by
  unfold execReleaseTimerExpiry at h
  dsimp only at h
  split at h
  · rename_i hreleasing
    refine of_block ((BlockRun.putZone s _ _ fun _ ok => ?_).trans ((BlockRun.clearFresh _ _).trans
      ((BlockRun.touchNotice _ _ _).trans ((BlockRun.releaseStale _ _).trans (BlockRun.settle _))))) h
    have hpresent : (s.zones.get z).present = false := by
      have := ok.agrees z
      simpa [zoneAgrees, hreleasing] using this
    exact ⟨by simp [zoneAgrees, hpresent], fun _ => by rw [hpresent]⟩
  · cases h

theorem selfTestComplete {m : ModuleId} {passed : Bool} {reading : Int}
    (h : execSelfTestComplete m passed reading s = .next t) : EventRun s t := by
  unfold execSelfTestComplete at h
  split at h
  · split at h
    · exact of_block ((BlockRun.putModule s _ _ (by simp)).trans ((BlockRun.returnToService _ _).trans
        (BlockRun.settle _))) h
    · exact of_block ((BlockRun.putModule s _ _ (by simp)).trans ((BlockRun.failSelfTest _ _).trans
        (BlockRun.settle _))) h
  · cases h

theorem temperatureReading {m : ModuleId} {reading : Int}
    (h : execTemperatureReading m reading s = .next t) : EventRun s t := by
  unfold execTemperatureReading at h
  dsimp only at h
  split at h
  · cases h
  · rename_i attached
    have hput := BlockRun.putModule s m ⟨afterReading (s.modules.records.get m).state reading, some reading,
      (s.modules.records.get m).selfTest⟩ fun habs => absurd (absent_of_afterReading habs) attached
    split at h
    · exact of_block hput h
    · split at h
      · exact of_block (hput.trans ((BlockRun.moduleChanged _ _ _).trans
          ((BlockRun.moduleHot _ _).trans (BlockRun.settle _)))) h
      · exact of_block (hput.trans ((BlockRun.moduleChanged _ _ _).trans
          ((BlockRun.moduleCooled _).trans (BlockRun.settle _)))) h

end EventRun

/-- The end of a stroke or sense pass that a fault cut short: a CANCEL pending ends, or the engine may choose. -/
theorem BlockRun.endCancel_or_kick (s : State) :
    BlockRun s (match s.engine.cancelled with
      | some w => s.endCancel w
      | none => s.kick) := by
  split
  · exact BlockRun.endCancel s _
  · exact BlockRun.kick s

namespace EventRun

variable {s t : State}

theorem moduleFaultReport {m : ModuleId} {cause : DriveFault} {completionFirst : Bool}
    (h : execModuleFaultReport m cause completionFirst s = .next t) : EventRun s t := by
  unfold execModuleFaultReport at h
  split at h
  · cases h
  · rename_i r _
    split at h
    · have hfirst : BlockRun s (if completionFirst then s.assumeDriven r else s) := by
        split
        · exact BlockRun.assumeDriven s r
        · exact .refl
      exact of_block (hfirst.trans ((BlockRun.setOperation _ _).trans ((BlockRun.enterFaulted _ _).trans
        ((BlockRun.endCancel_or_kick _).trans (BlockRun.settle _))))) h
    · cases h

theorem sensePassFailed (h : execSensePassFailed s = .next t) : EventRun s t := by
  unfold execSensePassFailed at h
  split at h
  · exact of_block ((BlockRun.setOperation s _).trans ((BlockRun.enterFaulted _ _).trans
      ((BlockRun.afterFailedSense _ _ _).trans (BlockRun.settle _)))) h
  · cases h

theorem sweepSenseComplete {states : Content} (h : execSweepSenseComplete states s = .next t) :
    EventRun s t := by
  unfold execSweepSenseComplete at h
  split at h
  · cases h
  · exact of_block ((BlockRun.endSense s _ _).trans ((BlockRun.continueSweep _).trans (BlockRun.settle _))) h

theorem preSenseComplete {states : Content} (h : execPreSenseComplete states s = .next t) :
    EventRun s t := by
  unfold execPreSenseComplete at h
  split at h
  · cases h
  · exact of_block ((BlockRun.endSense s _ _).trans
      ((BlockRun.afterLineWork _ fun c => BlockRun.andChoose_packingPoint _ _).trans (BlockRun.settle _))) h

theorem takeTrimList (s : State) (l : Link) : EventRun s (s.takeTrimList l) := by
  unfold State.takeTrimList
  split
  · rename_i t h
    exact take_eventRun (fun _ _ _ => serveTrimList_serves) h
  · exact .refl

theorem updateTrims (s : State) (c : Current) (previous : Content) (between : List Link) :
    EventRun s (s.updateTrims c previous between) := by
  have hfold : ∀ (ls : List Link) (s : State), EventRun s (ls.foldl State.takeTrimList s) := by
    intro ls
    induction ls with
    | nil => exact fun _ => .refl
    | cons l ls ih => exact fun s => (takeTrimList s l).trans (ih _)
  exact (BlockRun.handBank s c previous _).event.trans ((hfold between _).trans
    (BlockRun.handBank _ c previous _).event)

theorem afterLineWork (s : State) {go : Current → State} (hgo : ∀ c, EventRun s (go c)) :
    EventRun s (s.afterLineWork go) := by
  unfold State.afterLineWork
  split
  · exact (BlockRun.endCancel s _).event
  · split
    · exact hgo _
    · exact (BlockRun.kick s).event

theorem verifySenseComplete {result : VerifyResult} (h : execVerifySenseComplete result s = .next t) :
    EventRun s t := by
  unfold execVerifySenseComplete at h
  split at h
  · cases h
  · cases h
    exact (BlockRun.endSense s _ _).event.trans ((afterLineWork _ fun c => (updateTrims _ _ _ _).trans
      (BlockRun.verifyDecision _ _).event).trans (BlockRun.settle _).event)

theorem cancelSenseComplete {states : Content} (h : execCancelSenseComplete states s = .next t) :
    EventRun s t := by
  unfold execCancelSenseComplete at h
  split at h
  · cases h
  · exact of_block ((BlockRun.endSense s _ _).trans
      ((BlockRun.afterLineWork _ fun c => BlockRun.kick _).trans (BlockRun.settle _))) h

theorem auditSenseComplete {states : Content} (h : execAuditSenseComplete states s = .next t) :
    EventRun s t := by
  unfold execAuditSenseComplete at h
  split at h
  · cases h
  · exact of_block ((BlockRun.endSense s _ _).trans ((BlockRun.catchUndone _ _).trans
      ((BlockRun.leaveAudit _).trans (BlockRun.settle _)))) h

theorem returnSenseComplete {states : Content} (h : execReturnSenseComplete states s = .next t) :
    EventRun s t := by
  unfold execReturnSenseComplete at h
  split at h
  · cases h
  · exact of_block ((BlockRun.endSense s _ _).trans ((BlockRun.setEngine _ _).trans
      ((BlockRun.catchUndone _ _).trans ((BlockRun.continueReturn _).trans (BlockRun.settle _))))) h

theorem cancelledStroke (s : State) (w : CancelWork) : BlockRun s (s.cancelledStroke w) := by
  unfold State.cancelledStroke
  split
  · exact BlockRun.startSense s _ _
  · exact BlockRun.endCancel s w

/-- What follows the completion of a stroke: the CANCEL that took its line, or the next packing point. -/
theorem afterStroke (s : State) :
    BlockRun s (match s.engine.cancelled with
      | some w => s.cancelledStroke w
      | none =>
        match s.engine.current with
        | some c => State.andChoose (s.packingPoint c)
        | none => s.kick) := by
  split
  · exact cancelledStroke _ _
  · split
    · exact BlockRun.andChoose_packingPoint _ _
    · exact BlockRun.kick _

theorem strokeComplete (h : execStrokeComplete s = .next t) : EventRun s t := by
  unfold execStrokeComplete at h
  split at h
  · cases h
  · cases h
    exact BlockRun.event ((BlockRun.assumeDriven s _).trans ((BlockRun.setOperation _ _).trans
      ((afterStroke _).trans (BlockRun.settle _))))

theorem chargerStep (h : execChargerStep s = .next t) : EventRun s t := by
  unfold execChargerStep at h
  split at h
  · rename_i hc
    exact of_block ((BlockRun.single (.charge s hc)).trans ((BlockRun.compareReady _).trans
      (BlockRun.settle _))) h
  · cases h

theorem chargerIdleExpiry (h : execChargerIdleExpiry s = .next t) : EventRun s t := by
  unfold execChargerIdleExpiry at h
  split at h
  · exact of_block (BlockRun.single (.empty s)) h
  · cases h

theorem auditIntervalExpiry (h : execAuditIntervalExpiry s = .next t) : EventRun s t := by
  unfold execAuditIntervalExpiry at h
  split at h
  · cases h
  · split at h
    · exact of_block (BlockRun.setEngine s _) h
    · split at h
      · exact of_block (BlockRun.setEngine s _) h
      · exact of_block ((BlockRun.setEngine s _).trans (BlockRun.startSense _ _ _)) h

theorem deadlineExpiry (h : execDeadlineExpiry s = .next t) : EventRun s t := by
  unfold execDeadlineExpiry at h
  split at h
  · cases h
  · split at h
    · dsimp only at h
      split at h
      · exact of_block ((BlockRun.updRefresh s _).trans ((BlockRun.closeDecision _ _).trans
          (BlockRun.settle _))) h
      · exact of_block (BlockRun.updRefresh s _) h
    · cases h

end EventRun

/-- A soft reset takes effect when the RESET that waits is due (R179). -/
theorem softReset_of_exec {s t : State} (h : exec .softResetTakesEffect s = .next t) :
    ∃ w, s.ports.resetWait = some w ∧ s.resetDue w = true ∧ t = s.softReset := by
  have h : execSoftResetTakesEffect s = .next t := h
  unfold execSoftResetTakesEffect at h
  split at h
  · cases h
  · rename_i w hw
    split at h
    · rename_i hdue
      cases h
      exact ⟨w, hw, hdue, rfl⟩
    · cases h

/-- On a board without power only the presence line falls (log entry 7). -/
theorem exec_presenceLost_unpowered {s t : State} (h : exec .presenceLost s = .next t)
    (off : s.stage = .unpowered) : t = s.setPorts { s.ports with presence := false } := by
  have hpowered : s.powered = false := by simp [State.powered, off]
  have h : execPresenceLost s = .next t := h
  unfold execPresenceLost at h
  rw [hpowered] at h
  split at h
  · cases h; rfl
  · cases h

/-- All that a command can do which answers a next state. -/
inductive ExecCases (s t : State) : Prop
  | run (h : EventRun s t)
  | restart (x : Stage) (fresh : x = .unpowered ∨ x = .loadingPowerOn) (h : t = s.restarted x)
  | softReset (w : ResetWait) (waits : s.ports.resetWait = some w) (due : s.resetDue w = true)
      (h : t = s.softReset)
  | lineFalls (off : s.stage = .unpowered) (h : t = s.setPorts { s.ports with presence := false })

theorem exec_cases {c : Instr} {s t : State} (h : exec c s = .next t) : ExecCases s t := by
  cases hreq : requestOf c with
  | some lk =>
    obtain ⟨serve, hexec, hserve⟩ := exec_request hreq
    exact .run (take_eventRun hserve ((hexec s).symm.trans h))
  | none =>
    cases c with
    | powerOn => cases h; exact .restart _ (Or.inr rfl) rfl
    | powerLost =>
      have h : execPowerLost s = .next t := h
      unfold execPowerLost at h
      split at h
      · cases h; exact .restart _ (Or.inl rfl) rfl
      · cases h
    | softResetTakesEffect =>
      obtain ⟨w, waits, due, he⟩ := softReset_of_exec h
      exact .softReset w waits due he
    | presenceLost =>
      by_cases off : s.stage = .unpowered
      · exact .lineFalls off (exec_presenceLost_unpowered h off)
      · exact .run (.presenceLost off h)
    | recordLoadComplete answers readings => exact .run (.recordLoadComplete h)
    | byteReceived l b => exact .run (.byteReceived h)
    | gapTimerExpiry l => exact .run (.gapTimerExpiry h)
    | frameSent l => exact .run (.frameSent h)
    | presenceGained => exact .run (.presenceGained h)
    | unknownKindRequest l => exact .run (.unknownKindRequest h)
    | recordWriteComplete => exact .run (.recordWriteComplete h)
    | zoneReadingPresent z => exact .run (.readZone zoneAgrees_onPresent h)
    | zoneReadingAbsent z => exact .run (.readZone zoneAgrees_onAbsent h)
    | armingTimerExpiry z => exact .run (.armingTimerExpiry h)
    | releaseTimerExpiry z => exact .run (.releaseTimerExpiry h)
    | selfTestComplete m passed reading => exact .run (.selfTestComplete h)
    | temperatureReading m reading => exact .run (.temperatureReading h)
    | moduleFaultReport m cause first => exact .run (.moduleFaultReport (cause := cause) h)
    | sensePassFailed => exact .run (.sensePassFailed h)
    | sweepSenseComplete states => exact .run (.sweepSenseComplete h)
    | preSenseComplete states => exact .run (.preSenseComplete h)
    | verifySenseComplete result => exact .run (.verifySenseComplete h)
    | cancelSenseComplete states => exact .run (.cancelSenseComplete h)
    | auditSenseComplete states => exact .run (.auditSenseComplete h)
    | returnSenseComplete states => exact .run (.returnSenseComplete h)
    | strokeComplete => exact .run (.strokeComplete h)
    | chargerStep => exact .run (.chargerStep h)
    | chargerIdleExpiry => exact .run (.chargerIdleExpiry h)
    | auditIntervalExpiry => exact .run (.auditIntervalExpiry h)
    | deadlineExpiry => exact .run (.deadlineExpiry h)
    | _ => cases hreq

theorem exec_pending {c : Instr} {s t : State} (h : exec c s = .next t) : t.pending = s.pending := by
  cases exec_cases h with
  | run h => exact h.pending
  | restart x _ h => rw [h]; rfl
  | softReset w _ _ h => rw [h]; rfl
  | lineFalls _ h => rw [h]; rfl

/-- A property that every update keeps is kept by a sequence of them. -/
theorem EventRun.keeps {P : State → Prop} {s t : State} (move : ∀ s t, EventMove s t → P s → P t)
    (h : EventRun s t) (hs : P s) : P t := by
  induction h with
  | refl => exact hs
  | tail _ hm ih => exact move _ _ hm ih

/-- An invariant that every update keeps, and power, the soft reset and the fall of the presence line, is kept by every
step. -/
theorem step_keeps {P : State → Prop} {s t : State} (h : step s = .next t) (hs : P s)
    (pending : ∀ s x, P s → P (s.setPending x)) (move : ∀ s t, EventMove s t → P s → P t)
    (restart : ∀ s x, P s → P (s.restarted x)) (softReset : ∀ s, P s → P s.softReset)
    (line : s.stage = .unpowered → P s → P (s.setPorts { s.ports with presence := false })) : P t := by
  unfold step at h
  split at h
  · cases h
    exact (BlockRun.answerPrompt s).event.keeps move hs
  · rename_i c rest _
    cases exec_cases h with
    | run h => exact h.keeps move (pending s rest hs)
    | restart x _ h => rw [h]; exact restart _ x (pending s rest hs)
    | softReset w _ _ h => rw [h]; exact softReset _ (pending s rest hs)
    | lineFalls off h => rw [h]; exact pending _ rest (line off hs)

end Sys2Proof.Machine
end

section
/-!
The invariants of the settings and the reservoir, of the health records and of the pane table (R33, R96, R102, R132):
each is kept by every update of an event, so by every step. Then what every command has in common: how it stops, and
what becomes of a request taken.
-/

namespace Sys2Proof.Machine

open Host (Outcome)

/-! ### Settings and reservoir (R96, R98, R102) -/

theorem ChargeOk.of_eq {s t : State} (h : ChargeOk s) (settings : t.settings = s.settings)
    (reservoir : t.reservoir = s.reservoir) : ChargeOk t := by
  obtain ⟨h1, h2, h3, h4⟩ := h
  rw [← settings] at h1
  rw [← reservoir] at h2 h3 h4
  exact ⟨h1, h2, h3, h4⟩

/-- A stroke of at least one pin draws at least one unit, and no more than lies above Q_FLOOR. -/
theorem picksDraw_formStroke (s : State) (c : Current) (hs : SettingsInRange s.settings)
    (ready : s.settings.qReady ≤ s.reservoir.q) (some : s.hasCandidate c = true) :
    1 ≤ picksDraw (s.formStroke c) ∧ picksDraw (s.formStroke c) ≤ s.reservoir.q := by
  have hbudget := (walkOk_formStroke s c).fits
  unfold State.budget at hbudget
  have hfloor := hs.ready.1
  obtain ⟨k, ks, hk⟩ := List.exists_cons_of_ne_nil (formStroke_ne_nil s c some (by omega))
  obtain ⟨taken, hd⟩ := exists_pinDrive_of_mem_formStroke (s := s) (c := c) (k := k) (by rw [hk]; simp)
  have hone : 1 ≤ k.drive.draw := hd ▸ one_le_computeDrive_draw _
  refine ⟨?_, by omega⟩
  rw [hk]
  simp only [picksDraw, List.map_cons, List.sum_cons]
  omega

theorem EngineMove.chargeOk {W : Line → Prop} {s t : State} (h : EngineMove W s t) (hs : ChargeOk s) :
    ChargeOk t := by
  cases h with
  | idle n => exact ⟨hs.settings, hs.bound, hs.off, hs.full⟩
  | opens =>
    obtain ⟨settings, bound, off, full⟩ := hs
    by_cases hoff : s.reservoir.charger = .off
    · constructor <;> simp [Reservoir.refreshOpens, hoff, settings]
    · constructor <;> simp [Reservoir.refreshOpens, hoff, settings, bound, full]
  | draws c ready some =>
    obtain ⟨settings, bound, off, full⟩ := hs
    obtain ⟨hone, hle⟩ := picksDraw_formStroke s c settings ready some
    have hready := settings.ready.1
    have hfloor := settings.floor.1
    have hon : s.reservoir.charger ≠ .off := fun hoff => by have := off hoff; omega
    constructor
    · exact settings
    · simp only [State.setReservoir_reservoir, Reservoir.give]
      omega
    · simp only [State.setReservoir_reservoir, Reservoir.give]
      split
      · simp
      · exact fun hoff => absurd hoff hon
    · simp only [State.setReservoir_reservoir, Reservoir.give]
      split
      · simp; omega
      · rename_i hnot
        simp only [hnot, false_iff]
        omega
  | _ =>
    exact hs.of_eq (by simp [State.putStaging, State.putTarget, State.setOperation, State.flagBoth])
      (by simp [State.putStaging, State.putTarget, State.setOperation, State.flagBoth])

theorem BlockMove.chargeOk {s t : State} (h : BlockMove s t) (hs : ChargeOk s) : ChargeOk t := by
  cases h with
  | engine h => exact h.chargeOk hs
  | charge _ hc =>
    obtain ⟨settings, bound, off, full⟩ := hs
    have hlt : s.reservoir.q ≠ 512 := fun h => by rw [full.2 h] at hc; cases hc
    constructor
    · exact settings
    · simp only [State.setReservoir_reservoir, Reservoir.charge]
      omega
    · by_cases hcap : 512 ≤ s.reservoir.q + 1 <;> simp [Reservoir.charge, Config.reservoirCapacity, hcap]
    · by_cases hcap : 512 ≤ s.reservoir.q + 1 <;> simp [Reservoir.charge, Config.reservoirCapacity, hcap] <;> omega
  | empty => exact ⟨hs.settings, by simp [initialReservoir], by simp [initialReservoir],
      by simp [initialReservoir]⟩
  | setSettings _ x ok => exact ⟨ok hs.settings, hs.bound, hs.off, hs.full⟩
  | _ => exact hs.of_eq (by simp [State.detect]) (by simp [State.detect])

theorem EventMove.chargeOk {s t : State} (h : EventMove s t) (hs : ChargeOk s) : ChargeOk t := by
  cases h with
  | block h => exact h.chargeOk hs
  | _ => exact hs.of_eq (by simp) (by simp)

theorem chargeOk_of_initial {s : State} (settings : SettingsInRange s.settings)
    (reservoir : s.reservoir = initialReservoir) : ChargeOk s := by
  constructor
  · exact settings
  all_goals simp [reservoir, initialReservoir]

/-- Settles O54: every update keeps the settings and the charge in their ranges; a power-on takes the default settings
and an empty reservoir, a soft reset an empty reservoir. -/
theorem stepsKeepSettingsAndReservoir : Obligations.StepsKeepSettingsAndReservoir := by
  intro s t hs h
  refine step_keeps h hs (fun s x hs => hs.of_eq rfl rfl) (fun _ _ hm hs => hm.chargeOk hs)
    (fun s x _ => ?_) (fun s hs => ?_) fun _ hs => hs.of_eq rfl rfl
  · exact chargeOk_of_initial inRange_defaultSettings rfl
  · exact chargeOk_of_initial hs.settings rfl

/-! ### Health records (R132, R142, R146, R150) -/

theorem TablesOk.of_eq {s t : State} (h : TablesOk s) (health : t.health = s.health)
    (store : t.store = s.store) : TablesOk t := by
  obtain ⟨h1, h2, h3, h4⟩ := h
  rw [← health] at h1
  rw [← store] at h2 h3 h4
  exact ⟨h1, h2, h3, h4⟩

theorem TablesOk.setHealth {s : State} {x : Health} (h : TablesOk s) (hx : HealthOk x) :
    TablesOk (s.setHealth x) := ⟨hx, h.stored, h.snapshot, h.writing⟩

theorem EngineMove.tablesOk {W : Line → Prop} {s t : State} (h : EngineMove W s t) (hs : TablesOk s) :
    TablesOk t := by
  cases h with
  | entry e room new =>
    obtain ⟨few, once, trims, wear⟩ := hs.working
    refine hs.setHealth ⟨?_, ?_, trims, wear⟩
    · have : s.health.faultMap.length < 64 := room
      simp only [List.length_append, List.length_singleton]
      omega
    · rw [List.map_append, List.nodup_append]
      refine ⟨once, by simp, ?_⟩
      rintro a ha b hb rfl
      rw [List.map_singleton, List.mem_singleton] at hb
      exact new (hb ▸ ha)
  | wear l pins =>
    obtain ⟨few, once, trims, wear⟩ := hs.working
    refine hs.setHealth ⟨few, once, trims, fun i => ?_⟩
    rw [raiseWear, Table.get_tab]
    exact min_le_left _ _
  | _ =>
    exact hs.of_eq (by simp [State.putStaging, State.putTarget, State.setOperation, State.flagBoth])
      (by simp [State.putStaging, State.putTarget, State.setOperation, State.flagBoth])

theorem EventMove.tablesOk {s t : State} (h : EventMove s t) (hs : TablesOk s) : TablesOk t := by
  cases h with
  | block h =>
    cases h with
    | engine h => exact h.tablesOk hs
    | setStore _ x ok => exact ok hs
    | setHealth _ x ok => exact hs.setHealth (ok hs)
    | _ => exact hs.of_eq (by simp [State.detect]) (by simp [State.detect])
  | _ => exact hs.of_eq (by simp) (by simp)

/-- Settles O55: every update keeps the tables within bounds; a restart leaves the store as it is and takes blank
tables. -/
theorem stepsKeepTheHealthRecords : Obligations.StepsKeepTheHealthRecords := by
  intro s t hs h
  refine step_keeps h hs (fun s x hs => hs.of_eq rfl rfl) (fun _ _ hm hs => hm.tablesOk hs)
    (fun s x hs => ?_) (fun s hs => hs.of_eq rfl rfl) fun _ hs => hs.of_eq rfl rfl
  exact ⟨healthOk_blankHealth, hs.stored, nofun, nofun⟩

/-! ### Pane table (R33, R42, R43) -/

theorem PaneTableOk.of_eq {s t : State} (h : PaneTableOk s) (panes : t.panes = s.panes)
    (presence : t.ports.presence = s.ports.presence) : PaneTableOk t := by
  obtain ⟨h1, h2⟩ := h
  rw [← panes] at h1 h2
  rw [← presence] at h2
  exact ⟨h1, h2⟩

theorem paneTableOk_of_initialPanes {s : State} (h : s.panes = initialPanes) : PaneTableOk s := by
  constructor
  · rw [h]; exact panesOk_initialPanes
  · rw [h]; simp [initialPanes]

theorem EventMove.paneTableOk {s t : State} (h : EventMove s t) (hs : PaneTableOk s) : PaneTableOk t := by
  cases h with
  | block h =>
    cases h with
    | engine h => exact hs.of_eq h.same.panes h.same.presence
    | setPanes _ x ok => exact ok hs
    | _ => exact hs.of_eq (by simp [State.detect]) (by simp [State.detect])
  | losePatron => exact ⟨hs.table.revert, fun _ p hp => owner_revertPanes hp⟩
  | gainPatron => exact ⟨hs.table, nofun⟩
  | _ => exact hs.of_eq (by simp) (by simp)

/-- Settles O56: every update keeps the pane table; a power-on and a soft reset take the initial table, which a board
without power holds too. -/
theorem stepsKeepThePaneTable : Obligations.StepsKeepThePaneTable := by
  rintro s t ⟨hs, hstart⟩ h
  refine step_keeps h hs (fun s x hs => hs.of_eq rfl rfl) (fun _ _ hm hs => hm.paneTableOk hs)
    (fun s x _ => paneTableOk_of_initialPanes rfl) (fun s _ => paneTableOk_of_initialPanes rfl) fun off _ => ?_
  exact paneTableOk_of_initialPanes (hstart.load (by simp [State.loading, off])).panes

/-! ### How commands stop -/

/-- The outcome is a next state, or a refusal under the one name. -/
def stopsAs (r : Refusal) (o : Outcome State Fault Refusal) : Prop := (∃ t, o = .next t) ∨ o = .refused r

theorem stopsAs_next (r : Refusal) (t : State) : stopsAs r (.next t) := Or.inl ⟨t, rfl⟩

theorem stopsAs_refused (r : Refusal) : stopsAs r (.refused r) := Or.inr rfl

theorem stopsAs_ite {r : Refusal} {p : Prop} [Decidable p] {a b : Outcome State Fault Refusal}
    (ha : stopsAs r a) (hb : stopsAs r b) : stopsAs r (if p then a else b) := by
  split
  · exact ha
  · exact hb

theorem stopsAs_take (s : State) (l : Link) (k : RequestKind) (serve : Service) :
    stopsAs .notAtHandler (s.take l k serve) := by
  cases h : s.take l k serve with
  | next t => exact stopsAs_next _ t
  | fault r => exact absurd h take_ne_fault
  | refused r => rw [take_refused h]; exact stopsAs_refused _

theorem stopsAs_readZone (s : State) (z : ZoneId) (present : Bool) (move : ZoneState → Option ZoneState) :
    stopsAs .cannotArise (s.readZone z present move) := by
  unfold State.readZone
  refine stopsAs_ite (stopsAs_refused _) (stopsAs_ite (stopsAs_next _ _)
    (stopsAs_ite (stopsAs_refused _) ?_))
  split
  · exact stopsAs_refused _
  · exact stopsAs_next _ _

/-- An event stops only as one that cannot arise. -/
theorem stopsAs_exec_event {c : Instr} (s : State) (h : takesFrame c = false) :
    stopsAs .cannotArise (exec c s) := by
  cases c with
  | powerOn => exact stopsAs_next _ _
  | powerLost => exact stopsAs_ite (stopsAs_next _ _) (stopsAs_refused _)
  | recordLoadComplete answers readings =>
    show stopsAs _ (execRecordLoadComplete answers readings s)
    unfold execRecordLoadComplete
    split
    · exact stopsAs_next _ _
    · exact stopsAs_next _ _
    · exact stopsAs_refused _
    · exact stopsAs_refused _
    · exact stopsAs_refused _
  | softResetTakesEffect =>
    show stopsAs _ (execSoftResetTakesEffect s)
    unfold execSoftResetTakesEffect
    split
    · exact stopsAs_refused _
    · exact stopsAs_ite (stopsAs_next _ _) (stopsAs_refused _)
  | byteReceived l b => exact stopsAs_ite (stopsAs_next _ _) (stopsAs_next _ _)
  | gapTimerExpiry l => exact stopsAs_ite (stopsAs_refused _) (stopsAs_next _ _)
  | frameSent l => exact stopsAs_ite (stopsAs_next _ _) (stopsAs_refused _)
  | presenceLost =>
    exact stopsAs_ite (stopsAs_ite (stopsAs_next _ _) (stopsAs_next _ _)) (stopsAs_refused _)
  | presenceGained => exact stopsAs_ite (stopsAs_refused _) (stopsAs_next _ _)
  | recordWriteComplete =>
    show stopsAs _ (execRecordWriteComplete s)
    unfold execRecordWriteComplete
    split
    · exact stopsAs_refused _
    · exact stopsAs_next _ _
  | zoneReadingPresent z => exact stopsAs_readZone s z _ _
  | zoneReadingAbsent z => exact stopsAs_readZone s z _ _
  | armingTimerExpiry z => exact stopsAs_ite (stopsAs_next _ _) (stopsAs_refused _)
  | releaseTimerExpiry z => exact stopsAs_ite (stopsAs_next _ _) (stopsAs_refused _)
  | selfTestComplete m passed reading =>
    exact stopsAs_ite (stopsAs_ite (stopsAs_next _ _) (stopsAs_next _ _)) (stopsAs_refused _)
  | temperatureReading m reading =>
    exact stopsAs_ite (stopsAs_refused _) (stopsAs_ite (stopsAs_next _ _)
      (stopsAs_ite (stopsAs_next _ _) (stopsAs_next _ _)))
  | moduleFaultReport m cause first =>
    show stopsAs _ (execModuleFaultReport m cause first s)
    unfold execModuleFaultReport
    split
    · exact stopsAs_refused _
    · exact stopsAs_ite (stopsAs_next _ _) (stopsAs_refused _)
  | sensePassFailed =>
    show stopsAs _ (execSensePassFailed s)
    unfold execSensePassFailed
    split
    · exact stopsAs_next _ _
    · exact stopsAs_refused _
  | sweepSenseComplete states =>
    show stopsAs _ (execSweepSenseComplete states s)
    unfold execSweepSenseComplete
    split
    · exact stopsAs_refused _
    · exact stopsAs_next _ _
  | preSenseComplete states =>
    show stopsAs _ (execPreSenseComplete states s)
    unfold execPreSenseComplete
    split
    · exact stopsAs_refused _
    · exact stopsAs_next _ _
  | verifySenseComplete result =>
    show stopsAs _ (execVerifySenseComplete result s)
    unfold execVerifySenseComplete
    split
    · exact stopsAs_refused _
    · exact stopsAs_next _ _
  | cancelSenseComplete states =>
    show stopsAs _ (execCancelSenseComplete states s)
    unfold execCancelSenseComplete
    split
    · exact stopsAs_refused _
    · exact stopsAs_next _ _
  | auditSenseComplete states =>
    show stopsAs _ (execAuditSenseComplete states s)
    unfold execAuditSenseComplete
    split
    · exact stopsAs_refused _
    · exact stopsAs_next _ _
  | returnSenseComplete states =>
    show stopsAs _ (execReturnSenseComplete states s)
    unfold execReturnSenseComplete
    split
    · exact stopsAs_refused _
    · exact stopsAs_next _ _
  | strokeComplete =>
    show stopsAs _ (execStrokeComplete s)
    unfold execStrokeComplete
    split
    · exact stopsAs_refused _
    · exact stopsAs_next _ _
  | chargerStep => exact stopsAs_ite (stopsAs_next _ _) (stopsAs_refused _)
  | chargerIdleExpiry => exact stopsAs_ite (stopsAs_next _ _) (stopsAs_refused _)
  | auditIntervalExpiry =>
    refine stopsAs_ite (stopsAs_refused _) (stopsAs_ite (stopsAs_next _ _) ?_)
    split
    · exact stopsAs_next _ _
    · exact stopsAs_next _ _
  | deadlineExpiry =>
    show stopsAs _ (execDeadlineExpiry s)
    unfold execDeadlineExpiry
    split
    · exact stopsAs_refused _
    · exact stopsAs_ite (stopsAs_ite (stopsAs_next _ _) (stopsAs_next _ _)) (stopsAs_refused _)
  | _ => cases h

theorem stopsAs_exec (c : Instr) (s : State) :
    stopsAs (if takesFrame c then .notAtHandler else .cannotArise) (exec c s) := by
  cases hc : takesFrame c with
  | false => exact stopsAs_exec_event s hc
  | true =>
    cases hreq : requestOf c with
    | some lk =>
      obtain ⟨serve, hexec, _⟩ := exec_request (l := lk.1) (k := lk.2) hreq
      rw [hexec]
      exact stopsAs_take _ _ _ _
    | none =>
      have hunknown : ∃ l, c = .unknownKindRequest l := by
        cases c <;> simp_all [takesFrame, requestOf]
      obtain ⟨l, rfl⟩ := hunknown
      show stopsAs .notAtHandler (execUnknownKindRequest l s)
      unfold execUnknownKindRequest
      split
      · exact stopsAs_refused _
      · exact stopsAs_ite (stopsAs_refused _) (stopsAs_next _ _)

/-- Settles O1: by the definition of a step. -/
theorem stepExecutesTheFrontCommand : Obligations.StepExecutesTheFrontCommand := fun _ _ _ => rfl

/-- Settles O2: the empty queue, then the one name of each command's stop, and the queue that no update touches. -/
theorem commandsStopByNameAndKeepTheQueue : Obligations.CommandsStopByNameAndKeepTheQueue := by
  refine ⟨fun s hp => ?_, fun c s => ⟨fun f hf => ?_, fun t ht => exec_pending ht, fun r hr => ?_⟩⟩
  · have hstep : step s = .next s.answerPrompt := by
      unfold step
      rw [hp]
    exact ⟨hstep, fun hprompt => by rw [hstep, answerPrompt_of_no_prompt hprompt]⟩
  · rcases stopsAs_exec c s with ⟨t, ht⟩ | ht <;> rw [hf] at ht <;> cases ht
  · rcases stopsAs_exec c s with ⟨t, ht⟩ | ht <;> rw [hr] at ht <;> cases ht
    rfl

/-! ### A request taken (R162, R179) -/

theorem inService_iff (s : State) (l : Link) : s.inService l = true ↔
    s.stage ≠ .unpowered ∧ (l = .patron → s.ports.presence = true) := by
  cases l <;> simp [State.inService, State.powered]

/-- A request that a handler can take is turned away or served. -/
theorem take_of_takeable {s : State} {l : Link} {k : RequestKind} {f : Frame} (serve : Service)
    (h : s.takeable l = some f) (hk : f.kind = kindCode k) :
    (∃ why, s.take l k serve = .next (s.turnedAway l f why)) ∨
      ∃ u, s.take l k serve = .next u ∧ serve (s.popFrame l) f = .ok u := by
  unfold State.take
  rw [h]
  dsimp only
  rw [if_pos hk]
  split
  · exact Or.inl ⟨_, rfl⟩
  · split
    · exact Or.inl ⟨_, rfl⟩
    · rename_i u hu
      exact Or.inr ⟨u, rfl, hu⟩

theorem frames_popFrame (s : State) (l : Link) :
    ((s.popFrame l).port l).frames = (s.port l).frames.tail := by
  rw [State.popFrame, port_setPort_same]

theorem frames_turnedAway (s : State) (l : Link) (f : Frame) (why : Reason) :
    ((s.turnedAway l f why).port l).frames = (s.port l).frames.tail := by
  rw [State.turnedAway, State.refuse, port_setPort_same]
  exact (startSend_frames _).trans (frames_popFrame s l)

theorem carries_turnedAway (s : State) (l : Link) (f : Frame) (why : Reason) :
    ((s.turnedAway l f why).port l).carries (.reply f.tag (.refused f.kind why)) := by
  rw [State.turnedAway, State.refuse, port_setPort_same]
  exact carries_pushReply _ _ _

/-- Settles O3: the guard of the taking, then each row's service answers where it accepts. -/
theorem takenRequestLeavesBufferAndIsAnswered : Obligations.TakenRequestLeavesBufferAndIsAnswered := by
  refine ⟨fun l f s => ?_, fun c l k f s hreq htake hkind => ?_⟩
  · rw [takeable_eq_some_iff, inService_iff, List.head?_eq_some_iff, and_assoc]
  · obtain ⟨serve, hexec, hserve⟩ := exec_request hreq
    rw [hexec]
    rcases take_of_takeable serve htake hkind with ⟨why, ht⟩ | ⟨u, ht, hu⟩
    · exact ⟨_, ht, frames_turnedAway s l f why, replyOutstanding_of_carries (carries_turnedAway s l f why)⟩
    · obtain ⟨_, hframes, r, hcarries⟩ := hserve f _ u hu
      exact ⟨u, ht, hframes.trans (frames_popFrame s l), replyOutstanding_of_carries hcarries⟩

end Sys2Proof.Machine
end

section
/-!
The ports, and start-up with the zones (R32, R33, R49, R50, R64, R103, R155): while a record is loaded the blocks
hold their values, since every event that would move them is refused (`exec_of_loading`); afterwards each update keeps
the two invariants.
-/

namespace Sys2Proof.Machine

open Host (Outcome)

/-! ### Events while a record is loaded -/

/-- What an event leaves as it is while a record is loaded: no block moves but the ports, the zones, the module records
and the fresh flags; the zones keep their states until they are read, and the ports of a board without power
stay empty. -/
structure LoadingKept (s t : State) : Prop where
  stage : t.stage = s.stage
  engine : t.engine = s.engine
  panes : t.panes = s.panes
  writer : t.writer = s.writer
  reservoir : t.reservoir = s.reservoir
  operation : t.modules.operation = s.modules.operation
  resetWait : t.ports.resetWait = s.ports.resetWait
  commit : t.store.commit = s.store.commit
  unread : s.zonesReached = false → ∀ z, (t.zones.get z).state = (s.zones.get z).state
  empty : s.stage = .unpowered → s.ports.station = freshPort → s.ports.patron = freshPort →
    t.ports.station = freshPort ∧ t.ports.patron = freshPort

theorem zonesReached_of_stage {s t : State} (h : t.stage = s.stage) : t.zonesReached = s.zonesReached := by
  simp only [State.zonesReached, h]

theorem loading_of_stage {s t : State} (h : t.stage = s.stage) : t.loading = s.loading := by
  simp only [State.loading, h]

theorem loading_of_unpowered {s : State} (h : s.stage = .unpowered) : s.loading = true := by
  simp [State.loading, h]

theorem loading_of_not_zonesReached {s : State} (h : s.zonesReached = false) : s.loading = true := by
  unfold State.zonesReached at h
  unfold State.loading
  cases hs : s.stage <;> simp_all

theorem zonesReached_of_not_loading {s : State} (h : s.loading = false) : s.zonesReached = true := by
  by_contra hne
  rw [loading_of_not_zonesReached (by simpa using hne)] at h
  cases h

theorem not_running_of_loading {s : State} (h : s.loading = true) : s.stage ≠ .running ∧ s.stage ≠ .sweeping := by
  unfold State.loading at h
  cases hs : s.stage <;> simp_all

theorem LoadOk.kept {s t : State} (h : LoadOk s) (k : LoadingKept s t) : LoadOk t :=
  ⟨k.engine.trans h.engine, k.panes.trans h.panes, k.writer.trans h.writer, k.reservoir.trans h.reservoir,
   k.operation.trans h.quiet, k.resetWait.trans h.reset, k.commit.trans h.commit⟩

theorem LoadOk.setPending {s : State} (h : LoadOk s) (x : List Instr) : LoadOk (s.setPending x) :=
  ⟨h.engine, h.panes, h.writer, h.reservoir, h.quiet, h.reset, h.commit⟩

theorem LoadOk.no_prompt {s : State} (h : LoadOk s) : s.writer.prompt = false := by rw [h.writer]; rfl

/-- With no refresh open the engine makes no choice. -/
theorem kick_of_closed {s : State} (h : s.engine.refresh = none) : s.kick = s := by simp [State.kick, h]

theorem moduleChanged_of_not_running {s : State} (h : s.stage ≠ .running) (m : ModuleId) (x : ModuleState) :
    s.moduleChanged m x = s := by simp [State.moduleChanged, h]

theorem touchNotice_of_not_running {s : State} (h : s.stage ≠ .running) (z : ZoneId) (e : TouchEvent) :
    s.touchNotice z e = s := by simp [State.touchNotice, h]

theorem ownedLines_patron_of_initialPanes {s : State} (h : s.panes = initialPanes) : s.ownedLines .patron = [] := by
  simp [State.ownedLines, State.owns, h, initialPanes]

namespace LoadingKept

theorem refl (s : State) : LoadingKept s s :=
  ⟨rfl, rfl, rfl, rfl, rfl, rfl, rfl, rfl, fun _ _ => rfl, fun _ h k => ⟨h, k⟩⟩

theorem trans {s t u : State} (h : LoadingKept s t) (k : LoadingKept t u) : LoadingKept s u where
  stage := k.stage.trans h.stage
  engine := k.engine.trans h.engine
  panes := k.panes.trans h.panes
  writer := k.writer.trans h.writer
  reservoir := k.reservoir.trans h.reservoir
  operation := k.operation.trans h.operation
  resetWait := k.resetWait.trans h.resetWait
  commit := k.commit.trans h.commit
  unread hz z := (k.unread (by rw [zonesReached_of_stage h.stage, hz]) z).trans (h.unread hz z)
  empty off hs hp := by
    obtain ⟨hs', hp'⟩ := h.empty off hs hp
    exact k.empty (h.stage.trans off) hs' hp'

variable (s : State)

theorem setPage (x : PageStore) : LoadingKept s (s.setPage x) :=
  ⟨rfl, rfl, rfl, rfl, rfl, rfl, rfl, rfl, fun _ _ => rfl, fun _ h k => ⟨h, k⟩⟩

theorem setModules {x : ModuleInterface} (h : x.operation = s.modules.operation) : LoadingKept s (s.setModules x) :=
  ⟨rfl, rfl, rfl, rfl, rfl, h, rfl, rfl, fun _ _ => rfl, fun _ h k => ⟨h, k⟩⟩

/-- A zone keeps its state, or has been read. -/
theorem putZone (z : ZoneId) (x : Zone) (h : s.zonesReached = false → x.state = (s.zones.get z).state) :
    LoadingKept s (s.putZone z x) := by
  refine ⟨rfl, rfl, rfl, rfl, rfl, rfl, rfl, rfl, fun hz k => ?_, fun _ h k => ⟨h, k⟩⟩
  rw [State.putZone, State.setZones_zones, Table.get_set]
  split
  · rename_i heq
    rw [h hz, heq]
  · rfl

/-- A port that is empty and out of service stays so. -/
theorem setPort (l : Link) (p : Port) (h : s.inService l = false → s.port l = freshPort → p = freshPort) :
    LoadingKept s (s.setPort l p) := by
  refine ⟨by simp, by simp, by simp, by simp, by simp, by simp, by simp, by simp, by simp, fun off hs hp => ?_⟩
  have out : ∀ k, s.inService k = false := fun k => by cases k <;> simp [State.inService, State.powered, off]
  cases l with
  | station => exact ⟨h (out _) hs, hp⟩
  | patron => exact ⟨hs, h (out _) hp⟩

theorem clearModuleFresh (m : ModuleId) : LoadingKept s (s.clearModuleFresh m) := by
  unfold State.clearModuleFresh
  generalize linesOf m = ls
  induction ls generalizing s with
  | nil => exact refl s
  | cons l ls ih => exact (setPage s _).trans (ih _)

variable {s}

theorem dropModuleLines (h : s.engine = initialEngine) (m : ModuleId) : LoadingKept s (s.dropModuleLines m) := by
  refine ⟨rfl, ?_, rfl, rfl, rfl, rfl, rfl, rfl, fun _ _ => rfl, fun _ h k => ⟨h, k⟩⟩
  simp [State.dropModuleLines, h, initialEngine]

theorem enterFaulted (h : s.engine = initialEngine) (run : s.stage ≠ .running) (m : ModuleId) :
    LoadingKept s (s.enterFaulted m) := by
  unfold State.enterFaulted
  dsimp only
  have hclear := (setModules s (x := { s.modules with
    records := s.modules.records.set m { s.modules.records.get m with state := .faulted, selfTest := none } })
    rfl).trans (clearModuleFresh _ m)
  rw [moduleChanged_of_not_running (by rw [State.putModule, hclear.stage]; exact run)]
  exact hclear.trans (dropModuleLines (hclear.engine.trans h) m)

theorem losePatron (h : LoadOk s) : LoadingKept s s.losePatron := by
  unfold State.losePatron
  dsimp only
  rw [ownedLines_patron_of_initialPanes h.panes]
  refine ⟨rfl, ?_, ?_, rfl, rfl, rfl, rfl, rfl, fun _ _ => rfl, fun _ hs _ => ⟨hs, rfl⟩⟩
  · simp [State.stagingToTarget, State.updRefresh, h.engine, initialEngine]
  · simp [State.stagingToTarget, State.updRefresh, h.panes, initialPanes, revertPanes]

theorem setPresence (p : Port) (b : Bool) (h : p = freshPort ∨ p = s.ports.patron) :
    LoadingKept s (s.setPorts { s.ports with patron := p, presence := b }) := by
  refine ⟨rfl, rfl, rfl, rfl, rfl, rfl, rfl, rfl, fun _ _ => rfl, fun _ hs hp => ⟨hs, ?_⟩⟩
  rcases h with h | h
  · exact h
  · exact h.trans hp

theorem presenceLost {t : State} (hl : LoadOk s) (h : execPresenceLost s = .next t) : LoadingKept s t := by
  unfold execPresenceLost at h
  split at h
  · split at h
    · cases h; exact losePatron hl
    · cases h; exact setPresence s.ports.patron false (Or.inr rfl)
  · cases h

theorem presenceGained {t : State} (h : execPresenceGained s = .next t) : LoadingKept s t := by
  unfold execPresenceGained at h
  split at h
  · cases h
  · cases h; exact setPresence freshPort true (Or.inl rfl)

theorem byteReceived {t : State} {l : Link} {b : Byte} (h : execByteReceived l b s = .next t) :
    LoadingKept s t := by
  unfold execByteReceived at h
  split at h
  · rename_i served
    cases h
    exact setPort s l _ fun out => by rw [served] at out; cases out
  · cases h; exact refl s

theorem gapTimerExpiry {t : State} {l : Link} (h : execGapTimerExpiry l s = .next t) : LoadingKept s t := by
  unfold execGapTimerExpiry at h
  split at h
  · cases h
  · rename_i hr
    cases h
    exact setPort s l _ fun _ fresh => absurd (by rw [fresh]; rfl) hr

theorem frameSent {t : State} {l : Link} (h : execFrameSent l s = .next t) : LoadingKept s t := by
  unfold execFrameSent at h
  split at h
  · rename_i hs
    cases h
    exact setPort s l _ fun _ fresh => by rw [fresh] at hs; cases hs
  · cases h

theorem turnedAway {l : Link} {f : Frame} (h : s.takeable l = some f) (why : Reason) :
    LoadingKept s (s.turnedAway l f why) := by
  obtain ⟨served, _, _, _⟩ := (takeable_eq_some_iff s l f).1 h
  unfold State.turnedAway State.refuse State.popFrame
  rw [setPort_setPort]
  exact setPort s l _ fun out => by rw [served] at out; cases out

theorem unknownKindRequest {t : State} {l : Link} (h : execUnknownKindRequest l s = .next t) :
    LoadingKept s t := by
  unfold execUnknownKindRequest at h
  split at h
  · cases h
  · rename_i f hf
    split at h
    · cases h
    · cases h
      exact turnedAway hf _

/-- While a record is loaded every request is turned away (R163). -/
theorem take {t : State} {l : Link} {k : RequestKind} {serve : Service} (hl : s.loading = true)
    (h : s.take l k serve = .next t) : LoadingKept s t := by
  obtain ⟨f, hf, -, ⟨why, rfl⟩ | ⟨hscreen, -⟩⟩ := take_cases h
  · exact turnedAway hf why
  · have hscreen := hscreen.2.2
    unfold State.screen at hscreen
    rw [hl] at hscreen
    split at hscreen
    · cases hscreen
    · cases hscreen

theorem readZone {t : State} {z : ZoneId} {present : Bool} {move : ZoneState → Option ZoneState}
    (h : s.readZone z present move = .next t) : LoadingKept s t := by
  unfold State.readZone at h
  dsimp only at h
  split at h
  · cases h
  · split at h
    · cases h
      exact putZone s z _ fun _ => rfl
    · rename_i reached
      split at h
      · cases h
      · split at h
        · cases h
        · cases h
          exact putZone s z _ fun hz => absurd (by simp [hz]) reached

theorem armingTimerExpiry {t : State} {z : ZoneId} (run : s.stage ≠ .running)
    (unread : s.zonesReached = false → ∀ z, (s.zones.get z).state = .clear)
    (h : execArmingTimerExpiry z s = .next t) : LoadingKept s t := by
  unfold execArmingTimerExpiry at h
  dsimp only at h
  split at h
  · rename_i harming
    rw [touchNotice_of_not_running (by exact run)] at h
    cases h
    exact putZone s z _ fun hz => by rw [unread hz z] at harming; cases harming
  · cases h

theorem releaseTimerExpiry {t : State} {z : ZoneId} (hl : LoadOk s) (run : s.stage ≠ .running)
    (unread : s.zonesReached = false → ∀ z, (s.zones.get z).state = .clear)
    (h : execReleaseTimerExpiry z s = .next t) : LoadingKept s t := by
  unfold execReleaseTimerExpiry at h
  dsimp only at h
  split at h
  · rename_i hreleasing
    have hput := (putZone s z { s.zones.get z with state := .clear } fun hz => by
      rw [unread hz z] at hreleasing; cases hreleasing).trans (setPage _ { s.page with
        fresh := s.page.fresh.set (zoneLine z) false })
    have hload := hl.kept hput
    rw [touchNotice_of_not_running (by exact run)] at h
    unfold State.releaseStale at h
    rw [if_neg (by rw [State.clearFresh, State.setPage_engine, State.putZone, State.setZones_engine, hl.engine];
                   simp [initialEngine]), settle_of_no_prompt (by exact hl.no_prompt)] at h
    cases h
    exact hput
  · cases h

theorem selfTestComplete {t : State} {m : ModuleId} {passed : Bool} {reading : Int} (hl : LoadOk s)
    (loading : s.loading = true) (h : execSelfTestComplete m passed reading s = .next t) : LoadingKept s t := by
  obtain ⟨run, sweep⟩ := not_running_of_loading loading
  unfold execSelfTestComplete at h
  split at h
  · split at h
    · have hput : LoadingKept s (s.putModule m ⟨.ready, some reading, none⟩) := setModules s rfl
      have hret : (s.putModule m ⟨.ready, some reading, none⟩).returnToService m =
          s.putModule m ⟨.ready, some reading, none⟩ := by
        unfold State.returnToService
        split
        · rename_i hs; exact absurd hs sweep
        · rename_i hs; exact absurd hs run
        all_goals rfl
      rw [hret, settle_of_no_prompt (hl.kept hput).no_prompt] at h
      cases h
      exact hput
    · have hput : LoadingKept s (s.putModule m ⟨.starting, some reading, none⟩) := setModules s rfl
      have hfault := hput.trans (enterFaulted (hput.engine.trans hl.engine) (by exact run) m)
      have hload := hl.kept hfault
      unfold State.failSelfTest at h
      dsimp only at h
      rw [if_neg (by rw [hfault.stage]; exact sweep), kick_of_closed (by rw [hload.engine]; rfl),
        settle_of_no_prompt hload.no_prompt] at h
      cases h
      exact hfault
  · cases h

theorem temperatureReading {t : State} {m : ModuleId} {reading : Int} (hl : LoadOk s) (run : s.stage ≠ .running)
    (h : execTemperatureReading m reading s = .next t) : LoadingKept s t := by
  unfold execTemperatureReading at h
  dsimp only at h
  split at h
  · cases h
  · have hput : ∀ x, LoadingKept s (s.putModule m x) := fun x => setModules s rfl
    split at h
    · cases h; exact hput _
    · rw [moduleChanged_of_not_running (by exact run)] at h
      have hhot : ∀ x, (s.putModule m x).moduleHot m = s.putModule m x := fun x => by
        simp [State.moduleHot, State.putModule, hl.engine, initialEngine]
      have hcool : ∀ x, (s.putModule m x).moduleCooled = s.putModule m x := fun x => by
        simp [State.moduleCooled, State.putModule, hl.engine, initialEngine]
      rw [hhot, hcool, settle_of_no_prompt (hl.kept (hput _)).no_prompt] at h
      split at h
      · cases h; exact hput _
      · cases h; exact hput _

end LoadingKept

/-- All that a command can do while a record is loaded, or on a board without power: power, the end of the load, or an
event that moves no block. -/
theorem exec_of_loading {c : Instr} {s t : State} (hl : LoadOk s) (loading : s.loading = true)
    (unread : s.zonesReached = false → ∀ z, (s.zones.get z).state = .clear) (h : exec c s = .next t) :
    (∃ x, (x = .unpowered ∨ x = .loadingPowerOn) ∧ t = s.restarted x) ∨ (∃ answers readings, c = .recordLoadComplete answers readings) ∨
      LoadingKept s t := by
  obtain ⟨run, _⟩ := not_running_of_loading loading
  obtain ⟨hengine, -, -, hreservoir, hquiet, hreset, hcommit⟩ := id hl
  cases hreq : requestOf c with
  | some lk =>
    obtain ⟨serve, hexec, -⟩ := exec_request (l := lk.1) (k := lk.2) hreq
    exact Or.inr (Or.inr (.take loading ((hexec s).symm.trans h)))
  | none =>
    cases c with
    | powerOn => cases h; exact Or.inl ⟨_, Or.inr rfl, rfl⟩
    | powerLost =>
      have h : execPowerLost s = .next t := h
      unfold execPowerLost at h
      split at h
      · cases h; exact Or.inl ⟨_, Or.inl rfl, rfl⟩
      · cases h
    | recordLoadComplete answers readings => exact Or.inr (Or.inl ⟨_, _, rfl⟩)
    | softResetTakesEffect => simp [exec, execSoftResetTakesEffect, hreset] at h
    | byteReceived l b => exact Or.inr (Or.inr (.byteReceived h))
    | gapTimerExpiry l => exact Or.inr (Or.inr (.gapTimerExpiry h))
    | frameSent l => exact Or.inr (Or.inr (.frameSent h))
    | presenceLost => exact Or.inr (Or.inr (.presenceLost hl h))
    | presenceGained => exact Or.inr (Or.inr (.presenceGained h))
    | unknownKindRequest l => exact Or.inr (Or.inr (.unknownKindRequest h))
    | recordWriteComplete => simp [exec, execRecordWriteComplete, hcommit] at h
    | zoneReadingPresent z => exact Or.inr (Or.inr (.readZone h))
    | zoneReadingAbsent z => exact Or.inr (Or.inr (.readZone h))
    | armingTimerExpiry z => exact Or.inr (Or.inr (.armingTimerExpiry run unread h))
    | releaseTimerExpiry z => exact Or.inr (Or.inr (.releaseTimerExpiry hl run unread h))
    | selfTestComplete m passed reading => exact Or.inr (Or.inr (.selfTestComplete hl loading h))
    | temperatureReading m reading => exact Or.inr (Or.inr (.temperatureReading hl run h))
    | moduleFaultReport m cause first => simp [exec, execModuleFaultReport, State.strokeInFlight, hquiet] at h
    | sensePassFailed => simp [exec, execSensePassFailed, hquiet] at h
    | sweepSenseComplete states => simp [exec, execSweepSenseComplete, State.sensing, hquiet] at h
    | preSenseComplete states => simp [exec, execPreSenseComplete, State.sensing, hquiet] at h
    | verifySenseComplete result => simp [exec, execVerifySenseComplete, State.sensing, hquiet] at h
    | cancelSenseComplete states => simp [exec, execCancelSenseComplete, State.sensing, hquiet] at h
    | auditSenseComplete states => simp [exec, execAuditSenseComplete, State.sensing, hquiet] at h
    | returnSenseComplete states => simp [exec, execReturnSenseComplete, State.sensing, hquiet] at h
    | strokeComplete => simp [exec, execStrokeComplete, State.strokeInFlight, hquiet] at h
    | chargerStep => simp [exec, execChargerStep, hreservoir, initialReservoir] at h
    | chargerIdleExpiry => simp [exec, execChargerIdleExpiry, hreservoir, initialReservoir] at h
    | auditIntervalExpiry => simp [exec, execAuditIntervalExpiry, hengine, initialEngine] at h
    | deadlineExpiry => simp [exec, execDeadlineExpiry, hengine, initialEngine] at h
    | _ => cases hreq

/-- A load cannot end on a board without power. -/
theorem exec_recordLoadComplete_ne {answers : Table Bool 8} {readings : Table Int 8} {s t : State}
    (off : s.stage = .unpowered) : exec (.recordLoadComplete answers readings) s ≠ .next t := by
  simp [exec, execRecordLoadComplete, off]

/-! ### Ports (R155, R158, R161, R162, R176) -/

/-- The ports' bounds, less what is said of a board without power. -/
structure PortsBounded (s : State) : Prop where
  station : PortOk s.ports.station
  patron : PortOk s.ports.patron
  absent : s.ports.presence = false → s.ports.patron = freshPort

theorem PortsBounded.of_ports {s t : State} (h : PortsBounded s) (ports : t.ports = s.ports) : PortsBounded t := by
  obtain ⟨h1, h2, h3⟩ := h
  rw [← ports] at h1 h2 h3
  exact ⟨h1, h2, h3⟩

theorem PortsBounded.setPort {s : State} (h : PortsBounded s) {l : Link} {p : Port}
    (ok : PortOk (s.port l) → PortOk p) (empty : s.inService l = false → s.port l = freshPort → p = freshPort) :
    PortsBounded (s.setPort l p) := by
  cases l with
  | station => exact ⟨ok h.station, h.patron, h.absent⟩
  | patron =>
    refine ⟨h.station, ok h.patron, fun gone => empty ?_ (h.absent gone)⟩
    have gone : s.ports.presence = false := gone
    simp [State.inService, gone]

theorem PortsBounded.flagBoth {s : State} (h : PortsBounded s) {f : Port → Port}
    (hf : ∀ p, PortOk p → PortOk (f p)) : PortsBounded (s.flagBoth f) := by
  refine ⟨hf _ h.station, ?_, fun gone => ?_⟩
  · rw [State.flagBoth, State.setPorts_ports]
    dsimp only
    split
    · exact hf _ h.patron
    · exact h.patron
  · have gone : s.ports.presence = false := gone
    rw [State.flagBoth, State.setPorts_ports]
    dsimp only
    rw [gone]
    exact h.absent gone

theorem EngineMove.portsBounded {W : Line → Prop} {s t : State} (h : EngineMove W s t) (hs : PortsBounded s) :
    PortsBounded t := by
  cases h with
  | notice l n served => exact hs.setPort (fun h => h.pushNotice n) fun out => by rw [served] at out; cases out
  | driveLimit => exact hs.flagBoth fun _ h => h.setFlags _
  | mapFull => exact hs.flagBoth fun _ h => h.setFlags _
  | _ => exact hs.of_ports (by simp [State.putStaging, State.putTarget, State.setOperation])

theorem EventMove.portsBounded {s t : State} (h : EventMove s t) (hs : PortsBounded s) : PortsBounded t := by
  cases h with
  | block h =>
    cases h with
    | engine h => exact h.portsBounded hs
    | _ => exact hs.of_ports (by simp [State.detect])
  | port l p ok empty => exact hs.setPort ok empty
  | resetWait w => exact ⟨hs.station, hs.patron, hs.absent⟩
  | losePatron => exact ⟨hs.station, portOk_freshPort, fun _ => rfl⟩
  | gainPatron => exact ⟨hs.station, portOk_freshPort, nofun⟩

/-- Power does not leave the board during an event. -/
theorem EventMove.powered {s t : State} (h : EventMove s t) (hs : s.stage ≠ .unpowered) : t.stage ≠ .unpowered := by
  cases h with
  | block h =>
    cases h with
    | engine h => rwa [h.stage]
    | setStage _ x swept => rcases swept with rfl | rfl <;> simp
    | _ => simpa [State.detect] using hs
  | _ => simpa using hs

theorem EventRun.powered {s t : State} (h : EventRun s t) (hs : s.stage ≠ .unpowered) : t.stage ≠ .unpowered :=
  h.keeps (P := fun s => s.stage ≠ .unpowered) (fun _ _ hm hs => hm.powered hs) hs

theorem PortsOk.bounded {s : State} (h : PortsOk s) : PortsBounded s := ⟨h.station, h.patron, h.absent⟩

theorem PortsBounded.portsOk {s : State} (h : PortsBounded s) (powered : s.stage ≠ .unpowered) : PortsOk s :=
  ⟨h.station, h.patron, h.absent, fun off => absurd off powered⟩

theorem portsOk_of_fresh {s : State} (station : s.ports.station = freshPort) (patron : s.ports.patron = freshPort) :
    PortsOk s :=
  ⟨station ▸ portOk_freshPort, patron ▸ portOk_freshPort, fun _ => patron, fun _ => ⟨station, patron⟩⟩

theorem exec_keeps_portsOk {c : Instr} {s t : State} (hs : PortsOk s) (start : StartOk s)
    (h : exec c s = .next t) : PortsOk t := by
  by_cases off : s.stage = .unpowered
  · have loading := loading_of_unpowered off
    rcases exec_of_loading (start.load loading) loading start.unread h with ⟨x, -, rfl⟩ | ⟨_, _, rfl⟩ | hk
    · exact portsOk_of_fresh rfl rfl
    · exact absurd h (exec_recordLoadComplete_ne off)
    · obtain ⟨hstation, hpatron⟩ := hs.unpowered off
      obtain ⟨hstation, hpatron⟩ := hk.empty off hstation hpatron
      exact portsOk_of_fresh hstation hpatron
  · cases exec_cases h with
    | run h => exact (h.keeps (fun _ _ hm hs => hm.portsBounded hs) hs.bounded).portsOk (h.powered off)
    | restart x _ h => rw [h]; exact portsOk_of_fresh rfl rfl
    | softReset w _ _ h => rw [h]; exact portsOk_of_fresh rfl rfl
    | lineFalls hoff _ => exact absurd hoff off

/-- Without a prompt a step of the empty queue does nothing, as on a board that loads a record. -/
theorem answerPrompt_of_loading {s : State} (start : StartOk s) (loading : s.loading = true) : s.answerPrompt = s :=
  answerPrompt_of_no_prompt (start.load loading).no_prompt

theorem StartOk.setPending {s : State} (h : StartOk s) (x : List Instr) : StartOk (s.setPending x) :=
  ⟨fun loading => (h.load loading).setPending x, h.zones, h.absent, h.unread⟩

theorem PortsOk.setPending {s : State} (h : PortsOk s) (x : List Instr) : PortsOk (s.setPending x) :=
  ⟨h.station, h.patron, h.absent, h.unpowered⟩

/-- Settles O57: updates keep the bounds of each port and empty ones out of service; on a board without power no event
reaches a port. -/
theorem stepsKeepThePorts : Obligations.StepsKeepThePorts := by
  rintro s t ⟨hs, start⟩ h
  unfold step at h
  split at h
  · cases h
    by_cases off : s.stage = .unpowered
    · rwa [answerPrompt_of_loading start (loading_of_unpowered off)]
    · have hrun := (BlockRun.answerPrompt s).event
      exact (hrun.keeps (fun _ _ hm hs => hm.portsBounded hs) hs.bounded).portsOk (hrun.powered off)
  · exact exec_keeps_portsOk (hs.setPending _) (start.setPending _) h

/-! ### Start-up and zones (R32, R33, R49, R50, R64, R103) -/

/-- The zones have been read and are in step with their readings. -/
structure ZonesRead (s : State) : Prop where
  reached : s.zonesReached = true
  agree : ZonesAgree s

theorem ZonesAgree.of_eq {s t : State} (h : ZonesAgree s) (zones : t.zones = s.zones)
    (absent : ∀ m, t.moduleState m = .absent → s.moduleState m = .absent) : ZonesAgree t := by
  constructor
  · rw [zones]; exact h.agrees
  · intro z hz
    rw [zones]
    exact h.absent z (absent _ hz)

theorem zonesAgree_firstReadings {s : State} {zones : Table Zone 96} {attached : ModuleId → Bool}
    (hz : s.zones = firstReadings zones attached)
    (ha : ∀ m, s.moduleState m = .absent → attached m = false) : ZonesAgree s := by
  constructor
  · intro z
    rw [hz, firstReadings, Table.get_tab]
    split <;> simp [zoneAgrees]
  · intro z habs
    rw [hz, firstReadings, Table.get_tab, ha _ habs]
    rfl

theorem zonesAgree_detect (s : State) (answers : Table Bool 8) (readings : Table Int 8) :
    ZonesAgree (s.detect answers readings) := by
  refine zonesAgree_firstReadings rfl fun m hm => ?_
  rw [State.moduleState, State.detect, State.setZones_modules, State.setModules_modules, Table.get_tab] at hm
  by_contra hne
  rw [if_pos (by simpa using hne)] at hm
  cases hm

theorem BlockMove.zonesRead {s t : State} (h : BlockMove s t) (hs : ZonesRead s) : ZonesRead t := by
  obtain ⟨reached, agree⟩ := hs
  cases h with
  | engine h =>
    refine ⟨(zonesReached_of_stage h.stage).trans reached, agree.of_eq h.same.zones fun m hm => ?_⟩
    rw [← hm, State.moduleState, State.moduleState, h.same.records]
  | setZones _ x ok => exact ⟨reached, ok reached agree⟩
  | setModules _ x ok => exact ⟨reached, agree.of_eq rfl ok⟩
  | detect _ answers readings => exact ⟨reached, zonesAgree_detect s answers readings⟩
  | setStage _ x swept =>
    refine ⟨?_, agree.of_eq rfl fun _ h => h⟩
    rcases swept with rfl | rfl <;> rfl
  | _ => exact ⟨reached, agree.of_eq rfl fun _ h => h⟩

theorem EventMove.zonesRead {s t : State} (h : EventMove s t) (hs : ZonesRead s) : ZonesRead t := by
  cases h with
  | block h => exact h.zonesRead hs
  | port l p _ _ =>
    exact ⟨(zonesReached_of_stage (by simp)).trans hs.reached, hs.agree.of_eq (by simp) fun m hm => by
      rwa [State.moduleState, setPort_modules] at hm⟩
  | _ => exact ⟨hs.reached, hs.agree.of_eq rfl fun _ h => h⟩

theorem EventRun.zonesRead {s t : State} (h : EventRun s t) (hs : ZonesRead s) : ZonesRead t :=
  h.keeps (fun _ _ hm hs => hm.zonesRead hs) hs

theorem EventMove.not_loading {s t : State} (h : EventMove s t) (hs : s.loading = false) : t.loading = false := by
  cases h with
  | block h =>
    cases h with
    | engine h => rwa [loading_of_stage h.stage]
    | setStage _ x swept => rcases swept with rfl | rfl <;> rfl
    | _ => exact hs
  | port l p _ _ => rwa [loading_of_stage (setPort_stage _ _ _)]
  | _ => exact hs

theorem EventRun.not_loading {s t : State} (h : EventRun s t) (hs : s.loading = false) : t.loading = false :=
  h.keeps (P := fun s => s.loading = false) (fun _ _ hm hs => hm.not_loading hs) hs

/-- The sweep begins by leaving the load. -/
theorem BlockRun.startSweep_sweeping (s : State) : BlockRun (s.setStage .sweeping) s.startSweep :=
  (setPage _ _).trans ((blankLines _ _).trans (continueSweep _))

theorem startOk_of_zonesRead {s : State} (loading : s.loading = false) (h : ZonesRead s) : StartOk s where
  load hl := by rw [loading] at hl; cases hl
  zones _ := h.agree.agrees
  absent _ := h.agree.absent
  unread hz := by rw [h.reached] at hz; cases hz

theorem StartOk.zonesRead {s : State} (h : StartOk s) (reached : s.zonesReached = true) : ZonesRead s :=
  ⟨reached, h.zones reached, h.absent reached⟩

theorem startOk_restarted (s : State) (x : Stage) (fresh : x = .unpowered ∨ x = .loadingPowerOn) :
    StartOk (s.restarted x) where
  load _ := ⟨rfl, rfl, rfl, rfl, rfl, rfl, rfl⟩
  zones hz := by rcases fresh with rfl | rfl <;> cases hz
  absent hz := by rcases fresh with rfl | rfl <;> cases hz
  unread _ z := by
    show ((clearZones s.zones).get z).state = .clear
    rw [clearZones, Table.get_tab]

theorem zonesAgree_softReset (s : State) : ZonesAgree s.softReset := by
  refine zonesAgree_firstReadings (zones := s.zones) (attached := fun m => s.moduleState m != .absent) rfl
    fun m hm => ?_
  have hm : s.moduleState m = .absent := hm
  simp [hm]

theorem startOk_softReset {s : State} (commit : s.store.commit = none) : StartOk s.softReset where
  load _ := ⟨rfl, rfl, rfl, rfl, rfl, rfl, commit⟩
  zones _ := (zonesAgree_softReset s).agrees
  absent _ := (zonesAgree_softReset s).absent
  unread hz := by cases hz

theorem LoadingKept.startOk {s t : State} (k : LoadingKept s t) (h : EventRun s t ∨ s.stage = .unpowered) (start : StartOk s)
    (loading : s.loading = true) : StartOk t := by
  have read : t.zonesReached = true → ZonesRead t := fun hz => by
    have reached := (zonesReached_of_stage k.stage).symm.trans hz
    rcases h with h | off
    · exact h.zonesRead (start.zonesRead reached)
    · simp [State.zonesReached, off] at reached
  refine ⟨fun _ => (start.load loading).kept k, fun hz => (read hz).agree.agrees,
    fun hz => (read hz).agree.absent, fun hz z => ?_⟩
  have unread := (zonesReached_of_stage k.stage).symm.trans hz
  rw [k.unread unread z, start.unread unread z]

/-- The end of a load: the sweep runs or has completed, and the zones have been read. -/
theorem startOk_recordLoadComplete {answers : Table Bool 8} {readings : Table Int 8} {s t : State}
    (start : StartOk s) (h : exec (.recordLoadComplete answers readings) s = .next t) : StartOk t := by
  have swept : ∀ u : State, ZonesAgree u → StartOk (u.startSweep).settle := fun u hu => by
    have hrun := BlockRun.event ((BlockRun.startSweep_sweeping u).trans (BlockRun.settle _))
    exact startOk_of_zonesRead (hrun.not_loading rfl) (hrun.zonesRead ⟨rfl, hu.of_eq rfl fun _ h => h⟩)
  have h : execRecordLoadComplete answers readings s = .next t := h
  unfold execRecordLoadComplete at h
  split at h
  · cases h
    exact swept _ (zonesAgree_detect _ _ _)
  · rename_i mask hstage
    cases h
    have hread := EventRun.zonesRead
      (BlockRun.event ((BlockRun.loadSettings s).trans (BlockRun.restartModules _ mask readings)))
      (start.zonesRead (by simp [State.zonesReached, hstage]))
    exact swept _ hread.agree
  · cases h
  · cases h
  · cases h

theorem exec_keeps_startOk {c : Instr} {s t : State} (start : StartOk s) (h : exec c s = .next t) : StartOk t := by
  cases hl : s.loading with
  | true =>
    rcases exec_of_loading (start.load hl) hl start.unread h with ⟨x, fresh, rfl⟩ | ⟨_, _, rfl⟩ | hk
    · exact startOk_restarted s x fresh
    · exact startOk_recordLoadComplete start h
    · cases exec_cases h with
      | run h => exact hk.startOk (Or.inl h) start hl
      | restart x fresh h => rw [h]; exact startOk_restarted s x fresh
      | softReset w waits _ _ => rw [(start.load hl).reset] at waits; cases waits
      | lineFalls off _ => exact hk.startOk (Or.inr off) start hl
  | false =>
    have reached := zonesReached_of_not_loading hl
    cases exec_cases h with
    | run h => exact startOk_of_zonesRead (h.not_loading hl) (h.zonesRead (start.zonesRead reached))
    | restart x fresh h => rw [h]; exact startOk_restarted s x fresh
    | softReset w _ due h =>
      rw [h]
      refine startOk_softReset ?_
      simp only [State.resetDue, Bool.and_eq_true, Option.isNone_iff_eq_none] at due
      exact due.1.2
    | lineFalls off _ => rw [loading_of_unpowered off] at hl; cases hl

/-- Settles O58: while a record is loaded no event moves a block, its end reads the zones, and every update after it
keeps them in step with their readings. -/
theorem stepsKeepStartUpAndZones : Obligations.StepsKeepStartUpAndZones := by
  intro s t start h
  unfold step at h
  split at h
  · cases h
    cases hl : s.loading with
    | true => rwa [answerPrompt_of_loading start hl]
    | false =>
      have reached := zonesReached_of_not_loading hl
      have hrun := (BlockRun.answerPrompt s).event
      exact startOk_of_zonesRead (hrun.not_loading hl) (hrun.zonesRead (start.zonesRead reached))
  · exact exec_keeps_startOk (start.setPending _) h

end Sys2Proof.Machine
end

section
/-!
The state right after reset, and the requests that only answer or are refused (R155, R158, R162, R163, R170).
-/

namespace Sys2Proof.Machine

/-! ### The state right after reset -/

/-- Settles O60: each invariant by what a new board holds. -/
theorem resetStateMeetsTheInvariants : Obligations.ResetStateMeetsTheInvariants := by
  have start : StartOk State.reset :=
    ⟨fun _ => ⟨rfl, rfl, rfl, rfl, rfl, rfl, rfl⟩, nofun, nofun, fun _ z => by
      show ((Table.fill ⟨.clear, false⟩ : Table Zone 96).get z).state = .clear
      rw [Table.get_fill]⟩
  refine ⟨chargeOk_of_initial inRange_defaultSettings rfl, ⟨healthOk_blankHealth, nofun, nofun, nofun⟩,
    paneTableOk_of_initialPanes rfl, portsOk_of_fresh rfl rfl, start, ?_⟩
  refine ⟨fun _ => ⟨rfl, rfl, rfl⟩, List.nodup_nil, nofun, nofun, nofun, trivial, nofun, nofun, nofun, nofun, nofun, ?_,
    nofun, nofun, nofun, nofun, fun _ => rfl, nofun, nofun, fun _ => ⟨rfl, rfl, fun z => ?_, rfl⟩⟩
  · constructor
    · nofun
    · rintro ⟨h, -⟩
      cases h
  · show (Table.fill false : ZoneSet).get z = false
    rw [Table.get_fill]

/-! ### Answers and refusals -/

/-- A message placed behind an empty or waiting queue: it begins to be sent, or waits (R158). -/
theorem startSend_append (p : Port) (m : Message) (h : p.sending = none → p.queue = []) :
    Port.startSend { p with queue := p.queue ++ [m] } =
      if p.sending.isNone ∧ p.queue = [] then { p with sending := some (messageFrame m) }
      else { p with queue := p.queue ++ [m] } := by
  cases hs : p.sending with
  | none =>
    have hq := h hs
    rw [if_pos ⟨rfl, hq⟩]
    cases p
    simp_all [Port.startSend]
  | some g =>
    rw [if_neg (by simp)]
    simp [Port.startSend]

/-- Settles O5: both place one message in the port of the frame taken. -/
theorem answerTouchesOnlyItsPort : Obligations.AnswerTouchesOnlyItsPort := by
  intro s l f r why p after waits
  refine ⟨?_, ?_, fun k q hk => port_setPort_other s q hk.symm, fun q => ⟨by simp, by simp, setPort_eq_setPorts s l q⟩⟩
  · rw [State.answered, State.sendReply, State.popFrame, setPort_setPort, port_setPort_same, Port.pushReply]
    exact congrArg (s.setPort l) (startSend_append { p with frames := p.frames.tail } _ waits)
  · rw [State.turnedAway, State.refuse, State.popFrame, setPort_setPort, port_setPort_same, Port.pushReply,
      startSend_append { p with frames := p.frames.tail } _ waits]

/-! ### STATUS -/

/-- Settles O7: the report of the state with the frame taken. -/
theorem statusReportsAndClearsOwnFlags : Obligations.StatusReportsAndClearsOwnFlags := by
  intro l f s htake
  refine ⟨(s.popFrame l).statusReport l, take_of_served (serve := serveStatus l) htake rfl, ?_, ?_⟩
  · simp [State.statusReport, State.popFrame]
  · simp [State.statusReport, State.popFrame, State.moduleState, voltageOf]

end Sys2Proof.Machine
end

section
/-!
The refresh engine's invariant once the sweep has completed, taken apart (R14, R15, R31, R111): what holds of its lists
at all times (`Statics`), and one of three phases: an operation in flight, a wait for charge, or rest (`Phase`). A
choice, a close decision and a packing point lead from a state in which the engine may work (`Working`) into a phase.
-/

namespace Sys2Proof.Machine

/-! ### The invariant taken apart -/

/-- What holds of the engine's lists after the sweep, whatever it does. -/
structure Statics (s : State) : Prop where
  running : s.stage = .running
  closed : s.engine.refresh = none → s.engine.queue = []
  once : s.engine.queue.Nodup
  service : ∀ l ∈ s.engine.queue, s.lineInService l = true
  returnService : ∀ l ∈ s.engine.returnList, s.lineInService l = true
  audit : s.engine.auditInterval.isSome → s.engine.refresh = none

/-- The engine's state while an operation is in flight (R31). -/
def operationState : Operation → EngineState
  | .stroke _ => .striking
  | .sense _ _ => .sensing

/-- The states in which the engine rests (R15, R25, R30, R31). -/
inductive Resting (s : State) : Prop
  | idle (state : s.engine.state = .idle) (closed : s.engine.refresh = none)
  | deferred (state : s.engine.state = .deferred) (opened : s.engine.refresh.isSome) (queue : s.engine.queue = [])
  | held (state : s.engine.state = .held) (opened : s.engine.refresh.isSome) (queue : s.engine.queue ≠ [])
      (ready : s.nextReady = none)

/-- What the engine does after the sweep: an operation is in flight, the current line waits for charge, or it rests
with no line waiting for its return sense. -/
inductive Phase (s : State) : Prop
  | busy (o : Operation) (op : s.modules.operation = some o) (state : s.engine.state = operationState o)
      (closed : s.engine.refresh = none → s.engine.current = none ∧ s.engine.cancelled = none)
      (current : ∀ c, s.engine.current = some c → c.line ∈ s.engine.queue)
      (cancelled : ∀ w, s.engine.cancelled = some w → s.engine.current = none ∧ w.line = operationLine o)
      (owned : operationOwned s) (strokeModule : ∀ r, o = .stroke r → r.module = moduleOf r.line)
      (service : s.lineInService (operationLine o) = true)
  | waiting (c : Current) (quiet : s.modules.operation = none) (state : s.engine.state = .charging)
      (current : s.engine.current = some c) (queued : c.line ∈ s.engine.queue) (opened : s.engine.refresh.isSome)
      (cancelled : s.engine.cancelled = none)
  | rest (quiet : s.modules.operation = none) (current : s.engine.current = none)
      (cancelled : s.engine.cancelled = none) (returns : s.engine.returnList = []) (state : Resting s)

theorem quiet_iff (s : State) : s.quiet = true ↔ s.modules.operation = none := by
  simp [State.quiet]

theorem striking_iff (s : State) : s.striking ↔ ∃ r, s.modules.operation = some (.stroke r) := by
  unfold State.striking State.strokeInFlight
  rcases s.modules.operation with _ | (r | ⟨k, l⟩) <;> simp

theorem senses_iff (s : State) : s.senses ↔ ∃ k l, s.modules.operation = some (.sense k l) := by
  unfold State.senses State.strokeInFlight State.quiet
  rcases s.modules.operation with _ | (r | ⟨k, l⟩) <;> simp

theorem EngineOk.statics {s : State} (h : EngineOk s) (running : s.stage = .running) : Statics s :=
  ⟨running, fun hr => (h.closed hr).1, h.once, h.service, h.returnService, h.audit⟩

/-- Nothing in flight means that no CANCEL has work in flight. -/
theorem EngineOk.cancelled_none {s : State} (h : EngineOk s) (quiet : s.modules.operation = none) :
    s.engine.cancelled = none := by
  cases hw : s.engine.cancelled with
  | none => rfl
  | some w =>
    have := (h.cancelled w hw).2
    rw [quiet] at this
    cases this

theorem EngineOk.phase {s : State} (h : EngineOk s) (running : s.stage = .running) : Phase s := by
  have striking := (h.striking running).trans (striking_iff s)
  have sensing := (h.sensing running).trans (senses_iff s)
  have charging := h.charging
  rw [quiet_iff] at charging
  cases ho : s.modules.operation with
  | some o =>
    refine .busy o ho ?_ (fun hr => ⟨(h.closed hr).2.1, (h.closed hr).2.2⟩) h.current (fun w hw => ?_) h.owned
      (fun r hr => h.strokeModule r (hr ▸ ho)) (h.operating o ho)
    · cases o with
      | stroke r => exact striking.2 ⟨r, ho⟩
      | sense k l => exact sensing.2 ⟨k, l, ho⟩
    · obtain ⟨hc, hl⟩ := h.cancelled w hw
      rw [ho] at hl
      exact ⟨hc, (Option.some.inj hl).symm⟩
  | none =>
    have hcancelled := h.cancelled_none ho
    cases hc : s.engine.current with
    | some c =>
      refine .waiting c ho (charging.2 ⟨by simp [hc], ho⟩) hc (h.current c hc) ?_ hcancelled
      cases hr : s.engine.refresh with
      | none => rw [(h.closed hr).2.1] at hc; cases hc
      | some r => rfl
    | none =>
      have resting : s.engine.state = .idle ∨ s.engine.state = .deferred ∨ s.engine.state = .held := by
        rw [ho] at striking sensing
        rw [hc] at charging
        cases hs : s.engine.state <;> simp [hs] at striking sensing charging ⊢
      refine .rest ho hc hcancelled (h.returns resting) ?_
      rcases resting with hs | hs | hs
      · exact .idle hs (h.idle hs)
      · obtain ⟨opened, queue⟩ := h.deferred hs
        exact .deferred hs opened queue
      · obtain ⟨opened, queue, ready⟩ := h.held hs
        exact .held hs opened queue ready

theorem Resting.state {s : State} (h : Resting s) :
    s.engine.state = .idle ∨ s.engine.state = .deferred ∨ s.engine.state = .held := by
  cases h with
  | idle state _ => exact Or.inl state
  | deferred state _ _ => exact Or.inr (Or.inl state)
  | held state _ _ _ => exact Or.inr (Or.inr state)

/-- The engine in one of its phases meets its invariant. -/
theorem Phase.engineOk {s : State} (h : Phase s) (st : Statics s) : EngineOk s := by
  have notBefore : ∀ {p : Prop}, s.stage ≠ .running → p := fun hn => absurd st.running hn
  cases h with
  | busy o op state closed current cancelled owned strokeModule service =>
    have hstate : s.engine.state = .striking ∨ s.engine.state = .sensing := by
      rw [state]
      cases o with
      | stroke r => exact Or.inl rfl
      | sense k l => exact Or.inr rfl
    have notIn : ∀ x, x ≠ .striking → x ≠ .sensing → s.engine.state ≠ x := fun x h1 h2 hx => by
      rcases hstate with hs | hs
      · exact h1 (hx.symm.trans hs)
      · exact h2 (hx.symm.trans hs)
    exact
      { closed := fun hr => ⟨st.closed hr, closed hr⟩
        once := st.once
        service := st.service
        current := current
        cancelled := fun w hw => ⟨(cancelled w hw).1, by rw [op, Option.map_some, (cancelled w hw).2]⟩
        owned := owned
        strokeModule := fun r hr => strokeModule r (Option.some.inj (op.symm.trans hr))
        operating := fun o' ho => Option.some.inj (op.symm.trans ho) ▸ service
        started := fun _ => st.running
        striking := fun _ => by
          rw [striking_iff, op, state]
          cases o <;> simp [operationState]
        sensing := fun _ => by
          rw [senses_iff, op, state]
          cases o <;> simp [operationState]
        charging := by
          rw [quiet_iff, op]
          simp [notIn .charging (by simp) (by simp)]
        deferred := fun hx => absurd hx (notIn _ (by simp) (by simp))
        held := fun hx => absurd hx (notIn _ (by simp) (by simp))
        idle := fun hx => absurd hx (notIn _ (by simp) (by simp))
        audit := st.audit
        returns := by
          rintro (hx | hx | hx)
          all_goals exact absurd hx (notIn _ (by simp) (by simp))
        returnService := st.returnService
        waitingService := fun hs => by rw [st.running] at hs; cases hs
        before := notBefore }
  | waiting c quiet state current queued opened cancelled =>
    have hopen : s.engine.refresh ≠ none := Option.isSome_iff_ne_none.1 opened
    exact
      { closed := fun hr => absurd hr hopen
        once := st.once
        service := st.service
        current := fun d hd => Option.some.inj (current.symm.trans hd) ▸ queued
        cancelled := fun w hw => by rw [cancelled] at hw; cases hw
        owned := by rw [operationOwned, quiet]; trivial
        strokeModule := fun r hr => by rw [quiet] at hr; cases hr
        operating := fun o ho => by rw [quiet] at ho; cases ho
        started := fun _ => st.running
        striking := fun _ => by rw [striking_iff, quiet, state]; simp
        sensing := fun _ => by rw [senses_iff, quiet, state]; simp
        charging := by simp [state, current, quiet_iff, quiet]
        deferred := fun hx => by rw [state] at hx; cases hx
        held := fun hx => by rw [state] at hx; cases hx
        idle := fun hx => by rw [state] at hx; cases hx
        audit := st.audit
        returns := by
          rw [state]
          rintro (hx | hx | hx) <;> cases hx
        returnService := st.returnService
        waitingService := fun hs => by rw [st.running] at hs; cases hs
        before := notBefore }
  | rest quiet current cancelled returns resting =>
    have hstate := resting.state
    have notIn : ∀ x, x ≠ .idle → x ≠ .deferred → x ≠ .held → s.engine.state ≠ x := fun x h1 h2 h3 hx => by
      rcases hstate with hs | hs | hs
      · exact h1 (hx.symm.trans hs)
      · exact h2 (hx.symm.trans hs)
      · exact h3 (hx.symm.trans hs)
    exact
      { closed := fun hr => ⟨st.closed hr, current, cancelled⟩
        once := st.once
        service := st.service
        current := fun d hd => by rw [current] at hd; cases hd
        cancelled := fun w hw => by rw [cancelled] at hw; cases hw
        owned := by rw [operationOwned, quiet]; trivial
        strokeModule := fun r hr => by rw [quiet] at hr; cases hr
        operating := fun o ho => by rw [quiet] at ho; cases ho
        started := fun _ => st.running
        striking := fun _ => by
          rw [striking_iff, quiet]
          simp [notIn .striking (by simp) (by simp) (by simp)]
        sensing := fun _ => by
          rw [senses_iff, quiet]
          simp [notIn .sensing (by simp) (by simp) (by simp)]
        charging := by
          rw [current]
          simp [notIn .charging (by simp) (by simp) (by simp)]
        deferred := fun hx => by
          cases resting with
          | deferred _ opened queue => exact ⟨opened, queue⟩
          | idle state _ => rw [state] at hx; cases hx
          | held state _ _ _ => rw [state] at hx; cases hx
        held := fun hx => by
          cases resting with
          | held _ opened queue ready => exact ⟨opened, queue, ready⟩
          | idle state _ => rw [state] at hx; cases hx
          | deferred state _ _ => rw [state] at hx; cases hx
        idle := fun hx => by
          cases resting with
          | idle _ closed => exact closed
          | deferred state _ _ => rw [state] at hx; cases hx
          | held state _ _ _ => rw [state] at hx; cases hx
        audit := st.audit
        returns := fun _ => returns
        returnService := st.returnService
        waitingService := fun hs => by rw [st.running] at hs; cases hs
        before := notBefore }

/-! ### States in which the engine may work -/

/-- A refresh is open and nothing is in flight, and no CANCEL has work in flight: the engine may take a line, or go on
with its current line. -/
structure Working (s : State) : Prop where
  statics : Statics s
  opened : s.engine.refresh.isSome
  quiet : s.modules.operation = none
  cancelled : s.engine.cancelled = none

/-- A state whose engine is that of another but for what the refresh record says, with the same module interface and
stage. -/
structure SameWork (s t : State) : Prop where
  engine : ∃ x, x.isSome = s.engine.refresh.isSome ∧ t.engine = { s.engine with refresh := x }
  modules : t.modules = s.modules
  stage : t.stage = s.stage

namespace SameWork

variable {s t u : State}

theorem of_eq (engine : t.engine = s.engine) (modules : t.modules = s.modules) (stage : t.stage = s.stage) :
    SameWork s t := ⟨⟨_, rfl, engine⟩, modules, stage⟩

theorem refl (s : State) : SameWork s s := of_eq rfl rfl rfl

theorem trans (h : SameWork s t) (k : SameWork t u) : SameWork s u := by
  obtain ⟨⟨x, hx, hs⟩, hm, hst⟩ := h
  obtain ⟨⟨y, hy, ht⟩, km, kst⟩ := k
  rw [hs] at hy ht
  exact ⟨⟨y, hy.trans hx, ht⟩, km.trans hm, kst.trans hst⟩

theorem foldl {α : Type} (f : State → α → State) (hf : ∀ s a, SameWork s (f s a)) (l : List α) :
    ∀ s, SameWork s (l.foldl f s) := by
  induction l with
  | nil => exact refl
  | cons a l ih => exact fun s => (hf s a).trans (ih (f s a))

theorem refresh_eq_none (h : SameWork s t) : t.engine.refresh = none ↔ s.engine.refresh = none := by
  obtain ⟨⟨x, hx, he⟩, -, -⟩ := h
  rw [he, ← Option.isNone_iff_eq_none, ← Option.isNone_iff_eq_none, ← Option.not_isSome, ← Option.not_isSome, hx]

theorem refresh_isSome (h : SameWork s t) : t.engine.refresh.isSome = s.engine.refresh.isSome := by
  obtain ⟨⟨x, hx, he⟩, -, -⟩ := h
  rw [he, hx]

theorem queue (h : SameWork s t) : t.engine.queue = s.engine.queue := by
  obtain ⟨⟨x, hx, he⟩, -, -⟩ := h
  rw [he]

theorem current (h : SameWork s t) : t.engine.current = s.engine.current := by
  obtain ⟨⟨x, hx, he⟩, -, -⟩ := h
  rw [he]

theorem cancelled (h : SameWork s t) : t.engine.cancelled = s.engine.cancelled := by
  obtain ⟨⟨x, hx, he⟩, -, -⟩ := h
  rw [he]

theorem state (h : SameWork s t) : t.engine.state = s.engine.state := by
  obtain ⟨⟨x, hx, he⟩, -, -⟩ := h
  rw [he]

theorem returnList (h : SameWork s t) : t.engine.returnList = s.engine.returnList := by
  obtain ⟨⟨x, hx, he⟩, -, -⟩ := h
  rw [he]

theorem auditInterval (h : SameWork s t) : t.engine.auditInterval = s.engine.auditInterval := by
  obtain ⟨⟨x, hx, he⟩, -, -⟩ := h
  rw [he]

theorem lineModule (h : SameWork s t) : t.lineModule = s.lineModule := by
  funext l
  simp only [State.lineModule, State.moduleState, h.modules]

theorem lineInService (h : SameWork s t) : t.lineInService = s.lineInService := by
  funext l
  rw [State.lineInService, State.lineInService, h.lineModule]

theorem nextReady (h : SameWork s t) : t.nextReady = s.nextReady := by
  rw [State.nextReady, State.nextReady, h.queue, h.lineModule]

variable (s)

theorem setPage (x : PageStore) : SameWork s (s.setPage x) := of_eq rfl rfl rfl
theorem setPanes (x : List Pane) : SameWork s (s.setPanes x) := of_eq rfl rfl rfl
theorem setWriter (x : Writer) : SameWork s (s.setWriter x) := of_eq rfl rfl rfl
theorem setZones (x : Table Zone 96) : SameWork s (s.setZones x) := of_eq rfl rfl rfl
theorem setReservoir (x : Reservoir) : SameWork s (s.setReservoir x) := of_eq rfl rfl rfl
theorem setHealth (x : Health) : SameWork s (s.setHealth x) := of_eq rfl rfl rfl
theorem setStore (x : Store) : SameWork s (s.setStore x) := of_eq rfl rfl rfl
theorem setSettings (x : Settings) : SameWork s (s.setSettings x) := of_eq rfl rfl rfl
theorem setPorts (x : Ports) : SameWork s (s.setPorts x) := of_eq rfl rfl rfl
theorem setPending (x : List Instr) : SameWork s (s.setPending x) := of_eq rfl rfl rfl
theorem setPort (l : Link) (p : Port) : SameWork s (s.setPort l p) := of_eq (by simp) (by simp) (by simp)

theorem updRefresh (f : Refresh → Refresh) : SameWork s (s.updRefresh f) := ⟨⟨_, by simp, rfl⟩, rfl, rfl⟩

theorem notify (l : Link) (n : Notice) : SameWork s (s.notify l n) := by
  rw [notify_eq]
  exact setPort s _ _

theorem promptIf (b : Bool) : SameWork s (s.promptIf b) := by
  unfold State.promptIf
  split
  · exact setWriter s _
  · exact refl s

theorem sendReply (l : Link) (tag : Byte) (r : Reply) : SameWork s (s.sendReply l tag r) := setPort s _ _

theorem sendClosed (r : Refresh) (o : CloseOutcome) (e : Option Identity) : SameWork s (s.sendClosed r o e) := by
  unfold State.sendClosed
  dsimp only
  split <;> split
  · exact (notify s _ _).trans (notify _ _ _)
  · exact notify s _ _
  · exact notify s _ _
  · exact refl s

theorem offerPin (l : Line) (p : LinePin) : SameWork s (State.offerPin l s p) := by
  unfold State.offerPin
  split
  · exact (setHealth s _).trans ((updRefresh _ _).trans (notify _ _ _))
  · exact setPorts s _

theorem recordFaults (c : Current) : SameWork s (s.recordFaults c) := foldl _ (fun s p => offerPin s c.line p) _ s

theorem moduleChanged (m : ModuleId) (x : ModuleState) : SameWork s (s.moduleChanged m x) := by
  unfold State.moduleChanged
  split
  · exact notify s _ _
  · exact refl s

theorem touchNotice (z : ZoneId) (e : TouchEvent) : SameWork s (s.touchNotice z e) := by
  unfold State.touchNotice
  split
  · dsimp only
    split
    · exact (notify s _ _).trans (notify _ _ _)
    · exact notify s _ _
  · exact refl s

theorem stagingToTarget (ls : List Line) : SameWork s (s.stagingToTarget ls) := foldl _ (fun s _ => setPage s _) ls s

theorem blankLines (ls : List Line) : SameWork s (s.blankLines ls) := foldl _ (fun s _ => setPage s _) ls s

theorem clearModuleFresh (m : ModuleId) : SameWork s (s.clearModuleFresh m) := foldl _ (fun s _ => setPage s _) _ s

theorem assumeDriven (r : Stroke) : SameWork s (s.assumeDriven r) := by
  unfold State.assumeDriven
  split
  · exact refl s
  · exact setPage s _

theorem popFrame (l : Link) : SameWork s (s.popFrame l) := setPort s _ _

theorem turnedAway (l : Link) (f : Frame) (why : Reason) : SameWork s (s.turnedAway l f why) :=
  (popFrame s l).trans (setPort _ _ _)

theorem takeTrimList (l : Link) : SameWork s (s.takeTrimList l) := by
  obtain ⟨p, hp⟩ := takeTrimList_eq s l
  rw [hp]
  exact setPort s l p

theorem handBank (c : Current) (previous : Content) (b : BankId) : SameWork s (s.handBank c previous b) := by
  unfold State.handBank State.updateTrim
  dsimp only
  split
  · exact (setHealth s _).trans (setPorts _ _)
  · exact setHealth s _

theorem updateTrims (c : Current) (previous : Content) (between : List Link) :
    SameWork s (s.updateTrims c previous between) :=
  (handBank s c previous _).trans ((foldl _ takeTrimList between _).trans (handBank _ c previous _))

end SameWork

/-- The invariant speaks of the engine, less the payload of the refresh record, the module interface and the stage. -/
theorem EngineOk.same_work {s t : State} (h : EngineOk s) (k : SameWork s t) : EngineOk t := by
  have hnone := k.refresh_eq_none
  have hsome := k.refresh_isSome
  have hservice := k.lineInService
  have hready := k.nextReady
  obtain ⟨⟨x, -, he⟩, hm, hst⟩ := k
  have howned : operationOwned t = operationOwned s := by simp only [operationOwned, hm, he, hst]
  have hquiet : t.quiet = s.quiet := by rw [State.quiet, State.quiet, hm]
  have hstrike : t.strokeInFlight = s.strokeInFlight := by rw [State.strokeInFlight, State.strokeInFlight, hm]
  have hsenses : t.senses ↔ s.senses := by rw [State.senses, State.senses, hquiet, hstrike]
  rw [he] at hnone hsome
  constructor <;> try rw [he]
  · exact fun hr => h.closed (hnone.1 hr)
  · exact h.once
  · rw [hservice]; exact h.service
  · exact h.current
  · rw [hm]; exact h.cancelled
  · rw [howned]; exact h.owned
  · rw [hm]; exact h.strokeModule
  · rw [hm, hservice]; exact h.operating
  · rw [hst]; exact fun hr => h.started (hsome ▸ hr)
  · rw [hst, State.striking, hstrike]; exact h.striking
  · rw [hst, hsenses]; exact h.sensing
  · rw [hquiet]; exact h.charging
  · exact fun hx => ⟨hsome ▸ (h.deferred hx).1, (h.deferred hx).2⟩
  · rw [hready]; exact fun hx => ⟨hsome ▸ (h.held hx).1, (h.held hx).2⟩
  · exact fun hx => hnone.2 (h.idle hx)
  · exact fun hx => hnone.2 (h.audit hx)
  · exact h.returns
  · rw [hservice]; exact h.returnService
  · rw [hst, hservice]; exact h.waitingService
  · rw [hst]; exact h.before

theorem Statics.of_lists {s t : State} (h : Statics s) (stage : t.stage = s.stage)
    (service : ∀ l, s.lineInService l = true → t.lineInService l = true) (queue : t.engine.queue = s.engine.queue)
    (returns : t.engine.returnList = s.engine.returnList) (refresh : t.engine.refresh = none ↔ s.engine.refresh = none)
    (audit : t.engine.auditInterval.isSome → s.engine.auditInterval.isSome ∨ s.engine.refresh = none) : Statics t where
  running := stage.trans h.running
  closed hr := queue.trans (h.closed (refresh.1 hr))
  once := queue ▸ h.once
  service l hl := service l (h.service l (queue ▸ hl))
  returnService l hl := service l (h.returnService l (returns ▸ hl))
  audit ha := refresh.2 ((audit ha).elim h.audit id)

theorem Statics.same_work {s t : State} (h : Statics s) (k : SameWork s t) : Statics t :=
  h.of_lists k.stage (fun l hl => by rwa [k.lineInService]) k.queue k.returnList k.refresh_eq_none
    fun ha => Or.inl (k.auditInterval ▸ ha)

theorem Working.same_work {s t : State} (h : Working s) (k : SameWork s t) : Working t :=
  ⟨h.statics.same_work k, k.refresh_isSome ▸ h.opened, k.modules ▸ h.quiet, k.cancelled.trans h.cancelled⟩

end Sys2Proof.Machine
end

section
/-!
The refresh engine's invariant through its own acts: a sense begun, rest, the close decision, packing points and the
choice (R15 to R21, R25, R84, R117).
-/

namespace Sys2Proof.Machine

variable {s : State}

/-! ### Sense passes begun, and rest -/

/-- A sense pass begun by an engine that may begin it. -/
theorem engineOk_startSense (st : Statics s) {k : SenseKind} {l : Line}
    (closed : s.engine.refresh = none → s.engine.current = none)
    (current : ∀ c, s.engine.current = some c → c.line ∈ s.engine.queue) (cancelled : s.engine.cancelled = none)
    (owned : operationOwned (s.startSense k l)) (service : s.lineInService l = true) : EngineOk (s.startSense k l) := by
  refine Phase.engineOk (.busy (.sense k l) rfl rfl (fun hr => ⟨closed hr, cancelled⟩) current (fun w hw => ?_) owned
    nofun service) (st.of_lists rfl (fun _ h => h) rfl rfl Iff.rfl Or.inl)
  have hw : s.engine.cancelled = some w := hw
  rw [cancelled] at hw
  cases hw

theorem engineOk_senseReturn (st : Statics s) {l : Line} (current : s.engine.current = none)
    (cancelled : s.engine.cancelled = none) (waits : l ∈ s.engine.returnList) :
    EngineOk (s.startSense .return l) :=
  engineOk_startSense st (fun _ => current) (fun c hc => by rw [current] at hc; cases hc) cancelled
    ⟨st.running, current, cancelled, waits⟩ (st.returnService l waits)

/-- The first waiting line is sensed for its return, or the engine rests. -/
theorem engineOk_startReturn (st : Statics s) (quiet : s.modules.operation = none)
    (current : s.engine.current = none) (cancelled : s.engine.cancelled = none) (rest : Resting s) :
    EngineOk s.startReturn := by
  unfold State.startReturn
  split
  · rename_i hlist
    exact Phase.engineOk (.rest quiet current cancelled hlist rest) st
  · rename_i l ls hlist
    exact engineOk_senseReturn st current cancelled (by rw [hlist]; exact List.mem_cons_self)

/-- With no refresh open the engine goes IDLE, or senses a waiting line. -/
theorem engineOk_goIdle (st : Statics s) (quiet : s.modules.operation = none) (current : s.engine.current = none)
    (cancelled : s.engine.cancelled = none) (closed : s.engine.refresh = none) : EngineOk s.goIdle :=
  engineOk_startReturn (st.of_lists rfl (fun _ h => h) rfl rfl Iff.rfl fun _ => Or.inr closed) quiet current cancelled
    (.idle rfl closed)

/-! ### The close decision -/

theorem engineOk_closeRefresh (w : Working s) (current : s.engine.current = none) (queue : s.engine.queue = [])
    (r : Refresh) (o : CloseOutcome) (e : Option Identity) : EngineOk (s.closeRefresh r o e) := by
  have hsent := w.same_work (SameWork.sendClosed s r o e)
  have hqueue := (SameWork.sendClosed s r o e).queue.trans queue
  have hcurrent := (SameWork.sendClosed s r o e).current.trans current
  unfold State.closeRefresh
  dsimp only
  refine engineOk_goIdle ?_ hsent.quiet hcurrent hsent.cancelled rfl
  exact ⟨hsent.statics.running, fun _ => hqueue, hsent.statics.once, hsent.statics.service,
    hsent.statics.returnService, fun _ => rfl⟩

/-- The close decision closes the refresh or defers it. -/
theorem engineOk_closeDecision (w : Working s) (current : s.engine.current = none) (queue : s.engine.queue = [])
    (who : Option Identity) : EngineOk (s.closeDecision who) := by
  obtain ⟨r, hr⟩ := Option.isSome_iff_exists.1 w.opened
  have hclose := fun o => engineOk_closeRefresh w current queue r o who
  unfold State.closeDecision
  rw [hr]
  dsimp only
  split
  · split
    · exact hclose _
    · split
      · exact hclose _
      · exact hclose _
  · split
    · exact hclose _
    · split
      · exact hclose _
      · have hw := w.same_work (SameWork.updRefresh s fun r => r.startDeadline s.settings.deferMs)
        exact engineOk_startReturn (hw.statics.of_lists rfl (fun _ h => h) rfl rfl Iff.rfl Or.inl) hw.quiet current
          hw.cancelled (.deferred rfl hw.opened queue)

/-! ### Packing points -/

/-- A stroke fired on a queued line. -/
theorem engineOk_fire (w : Working s) {c : Current} (queued : c.line ∈ s.engine.queue) (ks : List Pick) :
    EngineOk (s.fire c ks) := by
  obtain ⟨statics, opened, quiet, cancelled⟩ := w
  have hopen : (s.fire c ks).engine.refresh ≠ none := by
    rw [fire_eq]
    simpa using Option.isSome_iff_ne_none.1 opened
  rw [fire_eq] at hopen ⊢
  refine Phase.engineOk (.busy (.stroke (strokeRecord c ks)) rfl rfl (fun hr => absurd hr hopen) (fun d hd => ?_)
    (fun v hv => ?_) (Or.inl ⟨_, rfl, rfl⟩) (fun r hr => ?_) (statics.service _ queued)) ?_
  · cases hd
    exact queued
  · have hv : s.engine.cancelled = some v := hv
    rw [cancelled] at hv
    cases hv
  · cases hr
    rfl
  · exact statics.of_lists rfl (fun _ h => h) rfl rfl (by simp) Or.inl

/-- The wait for charge of a queued line. -/
theorem engineOk_charging (w : Working s) {c : Current} (queued : c.line ∈ s.engine.queue) :
    EngineOk (s.setEngine { s.engine with state := .charging, current := some c }) :=
  Phase.engineOk (.waiting c w.quiet rfl rfl queued w.opened w.cancelled)
    (w.statics.of_lists rfl (fun _ h => h) rfl rfl Iff.rfl Or.inl)

theorem engineOk_packOrWait (w : Working s) {c : Current} (queued : c.line ∈ s.engine.queue) :
    EngineOk (s.packOrWait c) := by
  unfold State.packOrWait
  split
  · exact engineOk_fire w queued _
  · exact engineOk_charging w queued

/-- A line of the queue is sensed as current line. -/
theorem engineOk_senseCurrent (w : Working s) {c : Current} (queued : c.line ∈ s.engine.queue) {k : SenseKind}
    (kind : k = .pre ∨ k = .verify) :
    EngineOk ((s.setEngine { s.engine with current := some c }).startSense k c.line) := by
  obtain ⟨statics, opened, quiet, cancelled⟩ := w
  have st : Statics (s.setEngine { s.engine with current := some c }) :=
    statics.of_lists rfl (fun _ h => h) rfl rfl Iff.rfl Or.inl
  refine engineOk_startSense st (fun hr => absurd hr (Option.isSome_iff_ne_none.1 opened)) (fun d hd => ?_) cancelled ?_
    (statics.service _ queued)
  · cases hd
    exact queued
  · rcases kind with rfl | rfl <;> exact Or.inl ⟨c, rfl, rfl⟩

/-- A finished line leaves an engine that may take the next. -/
theorem Working.leaveFinished (w : Working s) (l : Line) : Working (s.leaveFinished l) := by
  obtain ⟨statics, opened, quiet, cancelled⟩ := w
  refine ⟨⟨statics.running, fun hr => ?_, statics.once.filter _, fun k hk => ?_, statics.returnService, fun ha => ?_⟩,
    ?_, quiet, cancelled⟩
  · have hr : s.engine.refresh.map _ = none := hr
    rw [Option.map_eq_none_iff] at hr
    exact absurd hr (Option.isSome_iff_ne_none.1 opened)
  · exact statics.service k (List.mem_filter.1 hk).1
  · exact absurd (statics.audit ha) (Option.isSome_iff_ne_none.1 opened)
  · show (s.engine.refresh.map _).isSome = true
    rwa [Option.isSome_map]

theorem current_leaveFinished (s : State) (l : Line) : (s.leaveFinished l).engine.current = none := rfl

/-- What a packing point leads to: a phase, or an engine without a current line that chooses again. -/
def PackingOk (r : State × Bool) : Prop :=
  if r.2 then Working r.1 ∧ r.1.engine.current = none else EngineOk r.1

theorem packingOk_finishLine (w : Working s) (c : Current) (search : Bool) :
    PackingOk (s.finishLine c search, true) := by
  unfold State.finishLine
  cases search
  · exact ⟨w.leaveFinished c.line, rfl⟩
  · exact ⟨(w.same_work (SameWork.recordFaults s c)).leaveFinished c.line, rfl⟩

theorem packingOk_endRaise (w : Working s) {c : Current} (queued : c.line ∈ s.engine.queue) :
    PackingOk (s.endRaise c) := by
  unfold State.endRaise
  split
  · exact engineOk_senseCurrent w queued (Or.inr rfl)
  · exact packingOk_finishLine w c _

theorem packingOk_suspend (w : Working s) (c : Current) : PackingOk (s.suspend c, true) := by
  obtain ⟨statics, opened, quiet, cancelled⟩ := w
  have hw : Working (s.setEngine { s.engine with current := none }) :=
    ⟨statics.of_lists rfl (fun _ h => h) rfl rfl Iff.rfl Or.inl, opened, quiet, cancelled⟩
  show Working (s.suspend c) ∧ (s.suspend c).engine.current = none
  unfold State.suspend
  dsimp only
  split
  · exact ⟨hw.same_work (SameWork.setPage _ _), rfl⟩
  · exact ⟨hw, rfl⟩

theorem packingOk_packingPoint (w : Working s) {c : Current} (queued : c.line ∈ s.engine.queue) :
    PackingOk (s.packingPoint c) := by
  unfold State.packingPoint
  split
  · exact packingOk_suspend w c
  · split
    · exact engineOk_packOrWait w queued
    · split
      · exact packingOk_endRaise w queued
      · dsimp only
        split
        · exact engineOk_packOrWait (c := { c with round := c.round.enterPhase .raise }) w queued
        · exact packingOk_endRaise (c := { c with round := c.round.enterPhase .raise }) w queued

/-! ### The choice -/

theorem packingOk_takeLine (w : Working s) {l : Line} (queued : l ∈ s.engine.queue) : PackingOk (s.takeLine l) := by
  unfold State.takeLine
  dsimp only
  split
  · exact packingOk_packingPoint (c := ⟨l, startRound⟩) w queued
  · exact engineOk_senseCurrent (c := ⟨l, startRound⟩) w queued (Or.inl rfl)

theorem engineOk_chooseLoop (n : Nat) : ∀ s : State, Working s → s.engine.current = none →
    s.engine.queue.length < n → EngineOk (State.chooseLoop n s) := by
  induction n with
  | zero => exact fun s _ _ h => absurd h (Nat.not_lt_zero _)
  | succ n ih =>
    intro s w current short
    rw [chooseLoop_succ]
    split
    · rename_i hlist
      cases hl : s.engine.returnList with
      | nil => simp [hl] at hlist
      | cons l ls =>
        rw [State.startReturn, hl]
        exact engineOk_senseReturn w.statics current w.cancelled (by rw [hl]; exact List.mem_cons_self)
    · rename_i hlist
      have hlist : s.engine.returnList = [] := by simpa using hlist
      split
      · rename_i hqueue
        exact engineOk_closeDecision w current (by simpa using hqueue) none
      · rename_i hqueue
        split
        · rename_i hready
          refine Phase.engineOk (.rest w.quiet current w.cancelled hlist (.held rfl w.opened ?_ hready))
            (w.statics.of_lists rfl (fun _ h => h) rfl rfl Iff.rfl Or.inl)
          simpa [State.setEngineState] using hqueue
        · rename_i l hready
          have hpack := packingOk_takeLine w (List.mem_of_find?_eq_some hready)
          unfold PackingOk at hpack
          split
          · rename_i again
            rw [if_pos again] at hpack
            exact ih _ hpack.1 hpack.2 (by have := takeLine_again_queue s l hready again; omega)
          · rename_i again
            rwa [if_neg again] at hpack

/-- The choice of an engine that may work leads into a phase. -/
theorem engineOk_choose (w : Working s) (current : s.engine.current = none) : EngineOk s.choose :=
  engineOk_chooseLoop _ s w current (Nat.lt_succ_self _)

theorem engineOk_andChoose {r : State × Bool} (h : PackingOk r) : EngineOk (State.andChoose r) := by
  unfold PackingOk at h
  unfold State.andChoose
  split
  · rename_i again
    rw [if_pos again] at h
    exact engineOk_choose h.1 h.2
  · rename_i again
    rwa [if_neg again] at h

/-- A packing point and the choice that may follow it. -/
theorem engineOk_packingPoint (w : Working s) {c : Current} (queued : c.line ∈ s.engine.queue) :
    EngineOk (State.andChoose (s.packingPoint c)) := engineOk_andChoose (packingOk_packingPoint w queued)

/-! ### The choice after an event -/

/-- The engine may be made to choose: it is in a phase, or may work with no current line, where an engine in DEFERRED
has no line waiting for its return sense. -/
structure Choosable (s : State) : Prop where
  statics : Statics s
  phase : Phase s ∨ (s.engine.refresh.isSome ∧ s.modules.operation = none ∧ s.engine.cancelled = none ∧
    s.engine.current = none ∧
    (s.engine.state = .deferred → s.engine.returnList = []))

theorem EngineOk.choosable (h : EngineOk s) (running : s.stage = .running) : Choosable s :=
  ⟨h.statics running, Or.inl (h.phase running)⟩

/-- An engine which rests in an open refresh may work. -/
theorem Phase.working_of_quiet (h : Phase s) (st : Statics s) (opened : s.engine.refresh.isSome)
    (quiet : s.modules.operation = none) : Working s := by
  cases h with
  | busy o op _ _ _ _ _ _ _ => rw [quiet] at op; cases op
  | waiting c _ _ _ _ _ cancelled => exact ⟨st, opened, quiet, cancelled⟩
  | rest _ _ cancelled _ _ => exact ⟨st, opened, quiet, cancelled⟩

theorem Choosable.working (h : Choosable s) (opened : s.engine.refresh.isSome) (quiet : s.modules.operation = none) :
    Working s := by
  rcases h.phase with hp | ⟨_, _, cancelled, _, _⟩
  · exact hp.working_of_quiet h.statics opened quiet
  · exact ⟨h.statics, opened, quiet, cancelled⟩

/-- After the choice, if it is made, the engine is in a phase. -/
theorem Choosable.engineOk_kick (h : Choosable s) : EngineOk s.kick := by
  unfold State.kick
  split
  · rename_i hfree
    simp only [Bool.and_eq_true, Option.isNone_iff_eq_none, quiet_iff] at hfree
    obtain ⟨⟨opened, quiet⟩, current⟩ := hfree
    have w := h.working opened quiet
    split
    · rename_i hdeferred
      obtain ⟨state, queue⟩ := hdeferred
      refine Phase.engineOk (.rest quiet current w.cancelled ?_ (.deferred state opened queue)) h.statics
      rcases h.phase with hp | ⟨_, _, _, _, hreturns⟩
      · cases hp with
        | busy o op _ _ _ _ _ _ _ => rw [quiet] at op; cases op
        | waiting c _ _ hc _ _ _ => rw [current] at hc; cases hc
        | rest _ _ _ returns _ => exact returns
      · exact hreturns state
    · exact engineOk_choose w current
  · rename_i hbusy
    rcases h.phase with hp | ⟨opened, quiet, _, current, _⟩
    · exact hp.engineOk h.statics
    · exact absurd (by simp [opened, quiet_iff, quiet, current]) hbusy

end Sys2Proof.Machine
end

section
/-!
The refresh engine's invariant through commits, refreshes that open or merge, catch-ups, the answers to prompts, and the
end of a CANCEL's work (R8 to R14, R28, R29, R45).
-/

namespace Sys2Proof.Machine

variable {s : State}

/-! ### Lines that join the queue -/

theorem Phase.same_work {t : State} (h : Phase s) (st : Statics s) (k : SameWork s t) : Phase t :=
  ((h.engineOk st).same_work k).phase (k.stage.trans st.running)

theorem Choosable.same_work {t : State} (h : Choosable s) (k : SameWork s t) : Choosable t := by
  refine ⟨h.statics.same_work k, ?_⟩
  rcases h.phase with hp | ⟨opened, quiet, cancelled, current, returns⟩
  · exact Or.inl (hp.same_work h.statics k)
  · refine Or.inr ⟨k.refresh_isSome ▸ opened, k.modules ▸ quiet, k.cancelled.trans cancelled,
      k.current.trans current, ?_⟩
    rw [k.state, k.returnList]
    exact returns

/-- An update of the engine after which a refresh is open, and by which lines in service may have joined the queue. -/
theorem Choosable.grow (h : Choosable s) {x : Engine} (state : x.state = s.engine.state)
    (queue : ∀ l ∈ s.engine.queue, l ∈ x.queue) (once : x.queue.Nodup)
    (service : ∀ l ∈ x.queue, s.lineInService l = true) (returns : x.returnList = s.engine.returnList)
    (current : x.current = s.engine.current) (cancelled : x.cancelled = s.engine.cancelled)
    (opened : x.refresh.isSome) (audit : x.auditInterval = none) : Choosable (s.setEngine x) := by
  have hopen : x.refresh ≠ none := Option.isSome_iff_ne_none.1 opened
  refine ⟨⟨h.statics.running, fun hr => absurd hr hopen, once, service, ?_, ?_⟩, ?_⟩
  · show ∀ l ∈ x.returnList, s.lineInService l = true
    rw [returns]
    exact h.statics.returnService
  · show x.auditInterval.isSome → _
    rw [audit]
    nofun
  have free : s.modules.operation = none → s.engine.cancelled = none → s.engine.current = none →
      (s.engine.state = .deferred → s.engine.returnList = []) →
      x.refresh.isSome ∧ s.modules.operation = none ∧ x.cancelled = none ∧ x.current = none ∧
        (x.state = .deferred → x.returnList = []) := fun h1 h2 h3 h4 =>
    ⟨opened, h1, cancelled.trans h2, current.trans h3, fun hs => returns.trans (h4 (state.symm.trans hs))⟩
  rcases h.phase with hp | ⟨_, h1, h2, h3, h4⟩
  · cases hp with
    | busy o op hstate closed hcurrent hcancelled owned strokeModule hservice =>
      refine Or.inl (.busy o op (state.trans hstate) (fun hr => absurd hr hopen) ?_ ?_ ?_ strokeModule hservice)
      · show ∀ c, x.current = some c → c.line ∈ x.queue
        rw [current]
        exact fun c hc => queue _ (hcurrent c hc)
      · show ∀ w, x.cancelled = some w → x.current = none ∧ _
        rw [cancelled, current]
        exact hcancelled
      · have howned : operationOwned (s.setEngine x) = operationOwned s := by
          simp only [operationOwned, State.setEngine_modules, State.setEngine_engine, State.setEngine_stage, current,
            cancelled, returns]
        rwa [howned]
    | waiting c quiet hstate hcurrent queued _ hcancelled =>
      exact Or.inl (.waiting c quiet (state.trans hstate) (current.trans hcurrent) (queue _ queued) opened
        (cancelled.trans hcancelled))
    | rest quiet hcurrent hcancelled hreturns _ => exact Or.inr (free quiet hcancelled hcurrent fun _ => hreturns)
  · exact Or.inr (free h1 h2 h3 h4)

/-- A line appended in an open refresh. -/
theorem Choosable.appendLine (h : Choosable s) (opened : s.engine.refresh.isSome) (l : Line) :
    Choosable (s.appendLine l) ∧ (s.appendLine l).engine.refresh.isSome := by
  have audit : s.engine.auditInterval = none := by
    cases ha : s.engine.auditInterval with
    | none => rfl
    | some n => exact absurd (h.statics.audit (by simp [ha])) (Option.isSome_iff_ne_none.1 opened)
  unfold State.appendLine
  split
  · rename_i hl
    refine ⟨h.grow rfl (fun k hk => ?_) ?_ (fun k hk => ?_) rfl rfl rfl (by simpa using opened) audit,
      by simpa using opened⟩
    · dsimp only
      split
      · exact hk
      · exact List.mem_append_left _ hk
    · dsimp only
      split
      · exact h.statics.once
      · rename_i hnew
        rw [List.contains_iff_mem] at hnew
        exact List.nodup_append.2 ⟨h.statics.once, by simp, fun a ha b hb => by
          rw [List.mem_singleton] at hb
          rintro rfl
          exact hnew (hb ▸ ha)⟩
    · dsimp only at hk
      split at hk
      · exact h.statics.service k hk
      · rcases List.mem_append.1 hk with hk | hk
        · exact h.statics.service k hk
        · rw [List.mem_singleton] at hk
          exact hk ▸ hl
  · exact ⟨h.same_work (SameWork.updRefresh s _), by rw [(SameWork.updRefresh s _).refresh_isSome, opened]⟩

theorem Choosable.appendLines (ls : List Line) : ∀ s : State, Choosable s → s.engine.refresh.isSome →
    Choosable (s.appendLines ls) := by
  induction ls with
  | nil => exact fun _ h _ => h
  | cons l ls ih => exact fun s h opened => ih _ (h.appendLine opened l).1 (h.appendLine opened l).2

/-- A refresh opens (R10, R13). -/
theorem Choosable.openRefresh (h : Choosable s) (who : Requesters) (ls : List Line) :
    Choosable (s.openRefresh who ls) := by
  unfold State.openRefresh
  refine Choosable.appendLines ls _ (Choosable.same_work ?_ (SameWork.setReservoir _ _)) rfl
  exact h.grow rfl (fun _ h => h) h.statics.once h.statics.service rfl rfl rfl rfl rfl

/-- A commit merges into the open refresh (R11). -/
theorem Choosable.mergeRefresh (h : Choosable s) (opened : s.engine.refresh.isSome) (r : Refresh) (who : Identity)
    (ls : List Line) : Choosable (s.mergeRefresh r who ls) := by
  have hsent := h.same_work (SameWork.sendClosed s r .superseded none)
  have hopened : (s.sendClosed r .superseded none).engine.refresh.isSome := by
    rw [(SameWork.sendClosed s r .superseded none).refresh_isSome, opened]
  have audit : (s.sendClosed r .superseded none).engine.auditInterval = none := by
    by_contra hne
    exact Option.isSome_iff_ne_none.1 hopened (hsent.statics.audit (Option.isSome_iff_ne_none.2 hne))
  unfold State.mergeRefresh
  refine (Choosable.appendLines ls _ ?_ rfl).same_work (SameWork.updRefresh _ _)
  exact hsent.grow rfl (fun _ h => h) hsent.statics.once hsent.statics.service rfl rfl rfl rfl audit

/-- A catch-up, without the choice that may follow (R29). -/
theorem Choosable.catchUp (h : Choosable s) (ls : List Line) : Choosable (s.catchUp ls) := by
  unfold State.catchUp
  split
  · rename_i opened
    exact Choosable.appendLines ls s h opened
  · split
    · exact h.openRefresh _ ls
    · exact h

/-! ### Commits (R8 to R12) -/

/-- A commit retargets pins of the current line and drops the copy of a CANCEL; lines do not move. -/
theorem EngineOk.commitLine (h : EngineOk s) (running : s.stage = .running) (l : Line) : EngineOk (s.commitLine l) := by
  have st := h.statics running
  have current : ∀ c, (s.commitLine l).engine.current = some c →
      ∃ d, s.engine.current = some d ∧ d.line = c.line := fun c hc => by
    obtain ⟨d, hd, rfl⟩ := Option.map_eq_some_iff.1 hc
    refine ⟨d, hd, ?_⟩
    split <;> rfl
  have cancelled : ∀ w, (s.commitLine l).engine.cancelled = some w →
      ∃ v, s.engine.cancelled = some v ∧ v.line = w.line := fun w hw => by
    obtain ⟨v, hv, rfl⟩ := Option.map_eq_some_iff.1 hw
    refine ⟨v, hv, ?_⟩
    split <;> rfl
  have lineOf_current : ∀ k, (∃ c, s.engine.current = some c ∧ c.line = k) →
      ∃ c, (s.commitLine l).engine.current = some c ∧ c.line = k := fun k ⟨c, hc, hk⟩ => by
    refine ⟨_, Option.map_eq_some_iff.2 ⟨c, hc, rfl⟩, ?_⟩
    split <;> exact hk
  have lineOf_cancelled : ∀ k, (∃ w, s.engine.cancelled = some w ∧ w.line = k) →
      ∃ w, (s.commitLine l).engine.cancelled = some w ∧ w.line = k := fun k ⟨w, hw, hk⟩ => by
    refine ⟨_, Option.map_eq_some_iff.2 ⟨w, hw, rfl⟩, ?_⟩
    split <;> exact hk
  have current_none : s.engine.current = none → (s.commitLine l).engine.current = none := fun hc => by
    show s.engine.current.map _ = none
    rw [hc]
    rfl
  have cancelled_none : s.engine.cancelled = none → (s.commitLine l).engine.cancelled = none := fun hw => by
    show s.engine.cancelled.map _ = none
    rw [hw]
    rfl
  refine Phase.engineOk ?_ (st.of_lists rfl (fun _ h => h) rfl rfl Iff.rfl Or.inl)
  cases h.phase running with
  | busy o op state closed hcurrent hcancelled owned strokeModule service =>
    refine .busy o op state (fun hr => ⟨current_none (closed hr).1, cancelled_none (closed hr).2⟩)
      (fun c hc => ?_) (fun w hw => ?_) ?_ strokeModule service
    · obtain ⟨d, hd, hline⟩ := current c hc
      exact hline ▸ hcurrent d hd
    · obtain ⟨v, hv, hline⟩ := cancelled w hw
      obtain ⟨hnone, hop⟩ := hcancelled v hv
      exact ⟨current_none hnone, hline.symm.trans hop⟩
    · have hop : (s.commitLine l).modules.operation = some o := op
      unfold operationOwned at owned ⊢
      rw [op] at owned
      rw [hop]
      rcases o with r | ⟨k, m⟩
      · exact owned.imp (lineOf_current _) (lineOf_cancelled _)
      · cases k with
        | pre => exact owned.imp (lineOf_current _) (lineOf_cancelled _)
        | verify => exact owned.imp (lineOf_current _) (lineOf_cancelled _)
        | cancel => exact lineOf_cancelled _ owned
        | sweep => exact ⟨owned.1, current_none owned.2.1, cancelled_none owned.2.2⟩
        | audit => exact ⟨owned.1, current_none owned.2.1, cancelled_none owned.2.2⟩
        | _ => exact ⟨owned.1, current_none owned.2.1, cancelled_none owned.2.2.1, owned.2.2.2⟩
  | waiting c quiet state hcurrent queued opened hcancelled =>
    obtain ⟨d, hd, hline⟩ := lineOf_current c.line ⟨c, hcurrent, rfl⟩
    exact .waiting d quiet state hd (by rw [hline]; exact queued) opened (cancelled_none hcancelled)
  | rest quiet hcurrent hcancelled returns resting =>
    refine .rest quiet (current_none hcurrent) (cancelled_none hcancelled) returns ?_
    cases resting with
    | idle state closed => exact .idle state closed
    | deferred state opened queue => exact .deferred state opened queue
    | held state opened queue ready => exact .held state opened queue ready

theorem EngineOk.commitLines (ls : List Line) : ∀ s : State, EngineOk s → s.stage = .running →
    EngineOk (s.commitLines ls) ∧ (s.commitLines ls).stage = .running := by
  induction ls with
  | nil => exact fun _ h running => ⟨h, running⟩
  | cons l ls ih => exact fun s h running => ih _ (h.commitLine running l) running

/-- A whole commit (R8 to R11). -/
theorem EngineOk.commit (h : EngineOk s) (running : s.stage = .running) (who : Identity) (ls : List Line) :
    EngineOk (s.commit who ls) := by
  obtain ⟨hlines, hrunning⟩ := EngineOk.commitLines ls s h running
  have hchoose := hlines.choosable hrunning
  unfold State.commit State.handLines
  split
  · exact hlines
  · split
    · exact (hchoose.openRefresh _ _).engineOk_kick
    · rename_i r hr
      exact (hchoose.mergeRefresh (by simp [hr]) r _ _).engineOk_kick

/-! ### The end of an event (R45) -/

theorem EngineOk.answerPrompt (h : EngineOk s) : EngineOk s.answerPrompt := by
  unfold State.answerPrompt
  split
  · have hdropped := h.same_work (SameWork.setWriter s { s.writer with prompt := false })
    dsimp only
    split
    · rename_i hanswers
      simp only [Bool.and_eq_true, beq_iff_eq] at hanswers
      unfold State.recompute
      dsimp only
      split
      · exact hdropped
      · have hstaged := SameWork.foldl (fun u l => u.putStaging l
          ((s.setWriter { s.writer with prompt := false }).composed l)) (fun u l => SameWork.setPage u _)
          ((s.setWriter { s.writer with prompt := false }).ownedLines .localWriter)
          (s.setWriter { s.writer with prompt := false })
        exact (hdropped.same_work hstaged).commit (hstaged.stage.trans hanswers.2) _ _
    · exact hdropped
  · exact h

theorem EngineOk.answerPrompts (n : Nat) : ∀ s : State, EngineOk s → EngineOk (State.answerPrompts n s) := by
  induction n with
  | zero => exact fun _ h => h
  | succ n ih =>
    intro s h
    unfold State.answerPrompts
    split
    · exact ih _ h.answerPrompt
    · exact h

theorem EngineOk.settle (h : EngineOk s) : EngineOk s.settle := by
  unfold State.settle
  dsimp only
  split
  · exact h.answerPrompt
  · exact EngineOk.answerPrompts _ s h

/-! ### The ends of a CANCEL's work, and of return senses (R28, R117) -/

/-- The work in flight of a CANCEL has ended. -/
theorem engineOk_endCancel (st : Statics s) (opened : s.engine.refresh.isSome) (quiet : s.modules.operation = none)
    (current : s.engine.current = none) (w : CancelWork) : EngineOk (s.endCancel w) := by
  have hcopied : SameWork s (if w.copyDue then s.putTarget w.line (s.sensed w.line) else s) := by
    split
    · exact SameWork.setPage s _
    · exact SameWork.refl s
  have hworking : ∀ t, SameWork s t → Working (t.setEngine { t.engine with cancelled := none }) := fun t k =>
    ⟨(st.same_work k).of_lists rfl (fun _ h => h) rfl rfl Iff.rfl Or.inl, by
      show t.engine.refresh.isSome = true
      rw [k.refresh_isSome, opened], (by show t.modules.operation = none; rw [k.modules, quiet]), rfl⟩
  unfold State.endCancel
  generalize (if w.copyDue then s.putTarget w.line (s.sensed w.line) else s) = t at hcopied
  have hw := hworking t hcopied
  have hcurrent := hcopied.current.trans current
  dsimp only
  split
  · rename_i hqueue
    exact engineOk_closeDecision hw hcurrent hqueue _
  · exact engineOk_choose hw hcurrent

/-- Return senses go on, the engine chooses, or it is IDLE. -/
theorem engineOk_continueReturn (st : Statics s) (quiet : s.modules.operation = none)
    (current : s.engine.current = none) (cancelled : s.engine.cancelled = none) : EngineOk s.continueReturn := by
  unfold State.continueReturn
  split
  · rename_i hlist
    cases hl : s.engine.returnList with
    | nil => simp [hl] at hlist
    | cons l ls =>
      rw [State.startReturn, hl]
      exact engineOk_senseReturn st current cancelled (by rw [hl]; exact List.mem_cons_self)
  · split
    · rename_i opened
      exact engineOk_choose ⟨st, opened, quiet, cancelled⟩ current
    · rename_i closed
      exact engineOk_goIdle st quiet current cancelled (by simpa using closed)

theorem engineOk_leaveAudit (st : Statics s) (quiet : s.modules.operation = none)
    (current : s.engine.current = none) (cancelled : s.engine.cancelled = none) : EngineOk s.leaveAudit := by
  unfold State.leaveAudit
  split
  · rename_i opened
    exact engineOk_choose ⟨st, opened, quiet, cancelled⟩ current
  · rename_i closed
    exact engineOk_goIdle st quiet current cancelled (by simpa using closed)

end Sys2Proof.Machine
end

section
/-!
The refresh engine's invariant through changes of a module, lines that leave service or wait for their return sense,
and a CANCEL (R16, R27, R28, R107, R110, R115, R117).
-/

namespace Sys2Proof.Machine

variable {s : State}

/-! ### Marks of the engine, and a module's record -/

/-- An update of the stale zones, the audit and the deadline: the lines and the state of the engine stay. -/
theorem EngineOk.setMarks (h : EngineOk s) (running : s.stage = .running) {x : Engine} (state : x.state = s.engine.state)
    (refresh : x.refresh = s.engine.refresh) (queue : x.queue = s.engine.queue) (current : x.current = s.engine.current)
    (cancelled : x.cancelled = s.engine.cancelled) (returns : x.returnList = s.engine.returnList)
    (audit : x.auditInterval.isSome → s.engine.refresh = none) : EngineOk (s.setEngine x) := by
  have st := h.statics running
  have hrefresh : (s.setEngine x).engine.refresh = s.engine.refresh := refresh
  have hqueue : (s.setEngine x).engine.queue = s.engine.queue := queue
  have hcurrent : (s.setEngine x).engine.current = s.engine.current := current
  have hcancelled : (s.setEngine x).engine.cancelled = s.engine.cancelled := cancelled
  have howned : operationOwned (s.setEngine x) = operationOwned s := by
    simp only [operationOwned, State.setEngine_modules, State.setEngine_engine, State.setEngine_stage, current,
      cancelled, returns]
  refine Phase.engineOk ?_ (st.of_lists rfl (fun _ h => h) queue returns (by rw [hrefresh]) fun ha => Or.inr (audit ha))
  cases h.phase running with
  | busy o op hstate closed hcur hcanc owned strokeModule service =>
    refine .busy o op (state.trans hstate) ?_ ?_ ?_ (howned ▸ owned) strokeModule service
    · rw [hrefresh, hcurrent, hcancelled]; exact closed
    · rw [hcurrent, hqueue]; exact hcur
    · rw [hcancelled, hcurrent]; exact hcanc
  | waiting c quiet hstate hcur queued opened hcanc =>
    exact .waiting c quiet (state.trans hstate) (current.trans hcur) (hqueue ▸ queued) (hrefresh ▸ opened)
      (cancelled.trans hcanc)
  | rest quiet hcur hcanc hreturns resting =>
    refine .rest quiet (current.trans hcur) (cancelled.trans hcanc) (returns.trans hreturns) ?_
    cases resting with
    | idle hstate closed => exact .idle (state.trans hstate) (refresh.trans closed)
    | deferred hstate opened hq => exact .deferred (state.trans hstate) (hrefresh ▸ opened) (queue.trans hq)
    | held hstate opened hq ready =>
      refine .held (state.trans hstate) (hrefresh ▸ opened) (hqueue ▸ hq) ?_
      rw [← ready]
      show x.queue.find? _ = s.engine.queue.find? _
      rw [queue]
      rfl

theorem moduleState_putModule (s : State) (m k : ModuleId) (x : ModuleRecord) :
    (s.putModule m x).moduleState k = if m = k then x.state else s.moduleState k := by
  rw [State.moduleState, State.putModule, State.setModules_modules, Table.get_set]
  split <;> rfl

theorem lineInService_putModule {m : ModuleId} {x : ModuleRecord}
    (service : inServiceState (s.moduleState m) = true → inServiceState x.state = true) (l : Line)
    (hl : s.lineInService l = true) : (s.putModule m x).lineInService l = true := by
  rw [State.lineInService, State.lineModule, moduleState_putModule]
  split
  · rename_i hm
    exact service (hm ▸ hl)
  · exact hl

theorem Statics.putModule (st : Statics s) {m : ModuleId} {x : ModuleRecord}
    (service : inServiceState (s.moduleState m) = true → inServiceState x.state = true) : Statics (s.putModule m x) :=
  st.of_lists rfl (lineInService_putModule service) rfl rfl Iff.rfl Or.inl

/-- A module's record changes: its lines stay in service if they were, and none of them that the engine holds becomes
READY. -/
theorem EngineOk.putModule (h : EngineOk s) (running : s.stage = .running) {m : ModuleId} {x : ModuleRecord}
    (service : inServiceState (s.moduleState m) = true → inServiceState x.state = true)
    (held : s.engine.state = .held → x.state = .ready → inServiceState (s.moduleState m) = true →
      s.moduleState m = .ready) : EngineOk (s.putModule m x) := by
  have st := h.statics running
  refine Phase.engineOk ?_ (st.putModule service)
  cases h.phase running with
  | busy o op state closed current cancelled owned strokeModule hservice =>
    exact .busy o op state closed current cancelled owned strokeModule (lineInService_putModule service _ hservice)
  | waiting c quiet state current queued opened cancelled =>
    exact .waiting c quiet state current queued opened cancelled
  | rest quiet current cancelled returns resting =>
    refine .rest quiet current cancelled returns ?_
    cases resting with
    | idle state closed => exact .idle state closed
    | deferred state opened queue => exact .deferred state opened queue
    | held state opened queue ready =>
      refine .held state opened queue ?_
      unfold State.nextReady at ready ⊢
      rw [List.find?_eq_none] at ready ⊢
      intro l hl
      have hnot := ready l hl
      simp only [beq_iff_eq, State.lineModule] at hnot ⊢
      rw [moduleState_putModule]
      split
      · rename_i hm
        intro hx
        have hserv := st.service l hl
        rw [State.lineInService, State.lineModule, ← hm] at hserv
        exact hnot (hm ▸ held state hx hserv)
      · exact hnot

/-! ### Lines that leave service (R16, R107, R115) -/

/-- The lines of module `m` have left the queue, the return-sense list and the work in progress, and the others are in
service as before. -/
structure Dropped (m : ModuleId) (s t : State) : Prop where
  queue : t.engine.queue = s.engine.queue.filter fun l => moduleOf l != m
  returns : t.engine.returnList = s.engine.returnList.filter fun l => moduleOf l != m
  current : t.engine.current = s.engine.current.filter fun c => moduleOf c.line != m
  cancelled : t.engine.cancelled = s.engine.cancelled
  state : t.engine.state = s.engine.state
  audit : t.engine.auditInterval = s.engine.auditInterval
  opened : t.engine.refresh.isSome = s.engine.refresh.isSome
  stage : t.stage = s.stage
  operation : t.modules.operation = s.modules.operation
  service : ∀ l, moduleOf l ≠ m → t.lineInService l = s.lineInService l

theorem LinesLeave.dropped {m : ModuleId} {t : State} (h : LinesLeave s m t) (stage : t.stage = s.stage)
    (operation : t.modules.operation = s.modules.operation)
    (service : ∀ l, moduleOf l ≠ m → t.lineInService l = s.lineInService l) : Dropped m s t := by
  have engine := h.engine
  refine ⟨by rw [engine], by rw [engine], by rw [engine], by rw [engine], by rw [engine], by rw [engine], ?_, stage,
    operation, service⟩
  cases hr : s.engine.refresh with
  | none => rw [h.closed hr]
  | some r =>
    obtain ⟨lost, he, -⟩ := h.unavailable r hr
    rw [he]
    rfl

theorem clearModuleFresh_modules (s : State) (m : ModuleId) : (s.clearModuleFresh m).modules = s.modules :=
  (SameWork.clearModuleFresh s m).modules

theorem enterFaulted_modules (s : State) (m : ModuleId) : (s.enterFaulted m).modules =
    (s.putModule m { s.modules.records.get m with state := .faulted, selfTest := none }).modules := by
  show (State.moduleChanged _ m .faulted).modules = _
  rw [(SameWork.moduleChanged _ m .faulted).modules, clearModuleFresh_modules]

theorem enterStarting_modules (s : State) (m : ModuleId) (reading : Int) : (s.enterStarting m reading).modules =
    (s.putModule m ⟨.starting, some reading, some Config.selfTestMs⟩).modules := by
  show (State.moduleChanged _ m .starting).modules = _
  rw [(SameWork.moduleChanged _ m .starting).modules, clearModuleFresh_modules]

theorem lineInService_of_modules {t : State} {m : ModuleId} {x : ModuleRecord}
    (modules : t.modules = (s.putModule m x).modules) {l : Line} (hl : moduleOf l ≠ m) :
    t.lineInService l = s.lineInService l := by
  have hstate : t.moduleState (moduleOf l) = (s.putModule m x).moduleState (moduleOf l) := by
    rw [State.moduleState, State.moduleState, modules]
  rw [State.lineInService, State.lineInService, State.lineModule, State.lineModule, hstate, moduleState_putModule,
    if_neg (Ne.symm hl)]

theorem stage_enterFaulted (s : State) (m : ModuleId) : (s.enterFaulted m).stage = s.stage :=
  (SameWork.moduleChanged _ m .faulted).stage.trans (SameWork.clearModuleFresh _ m).stage

theorem stage_enterStarting (s : State) (m : ModuleId) (reading : Int) : (s.enterStarting m reading).stage = s.stage :=
  (SameWork.moduleChanged _ m .starting).stage.trans (SameWork.clearModuleFresh _ m).stage

theorem dropped_enterFaulted (s : State) (m : ModuleId) : Dropped m s (s.enterFaulted m) :=
  (linesLeave_enterFaulted s m).dropped (stage_enterFaulted s m) (by rw [enterFaulted_modules]; rfl)
    fun _ hl => lineInService_of_modules (enterFaulted_modules s m) hl

theorem dropped_enterStarting (s : State) (m : ModuleId) (reading : Int) : Dropped m s (s.enterStarting m reading) :=
  (linesLeave_enterStarting s m reading).dropped (stage_enterStarting s m reading)
    (by rw [enterStarting_modules]; rfl) fun _ hl => lineInService_of_modules (enterStarting_modules s m reading) hl

theorem Statics.drop {m : ModuleId} {t : State} (st : Statics s) (d : Dropped m s t) : Statics t := by
  have hnone : t.engine.refresh = none ↔ s.engine.refresh = none := by
    rw [← Option.not_isSome_iff_eq_none, ← Option.not_isSome_iff_eq_none, d.opened]
  refine ⟨d.stage.trans st.running, fun hr => ?_, ?_, fun l hl => ?_, fun l hl => ?_, fun ha => ?_⟩
  · rw [d.queue, st.closed (hnone.1 hr)]
    rfl
  · rw [d.queue]
    exact st.once.filter _
  · rw [d.queue, List.mem_filter] at hl
    rw [d.service l (by simpa using hl.2)]
    exact st.service l hl.1
  · rw [d.returns, List.mem_filter] at hl
    rw [d.service l (by simpa using hl.2)]
    exact st.returnService l hl.1
  · rw [d.audit] at ha
    exact hnone.2 (st.audit ha)

/-- Work on the line of module `m` has ended with the module's leaving service: no line is being processed. -/
theorem Dropped.current_none {m : ModuleId} {t : State} (d : Dropped m s t)
    (h : ∀ c, s.engine.current = some c → moduleOf c.line = m) : t.engine.current = none := by
  rw [d.current, Option.filter_eq_none_iff]
  intro c hc
  simp [h c hc]

/-- A module without an operation leaves service, and the engine may choose. -/
theorem EngineOk.choosable_drop {m : ModuleId} {t : State} (h : EngineOk s) (running : s.stage = .running)
    (d : Dropped m s t) (free : ∀ o, s.modules.operation = some o → moduleOf (operationLine o) ≠ m) :
    Choosable t := by
  refine ⟨(h.statics running).drop d, ?_⟩
  have keep : ∀ c, t.engine.current = some c → s.engine.current = some c := fun c hc => by
    rw [d.current, Option.filter_eq_some_iff] at hc
    exact hc.1
  have still : ∀ c, s.engine.current = some c → moduleOf c.line ≠ m → t.engine.current = some c := fun c hc hm => by
    rw [d.current, Option.filter_eq_some_iff]
    exact ⟨hc, by simpa using hm⟩
  have gone : s.engine.current = none → t.engine.current = none := fun hc => by rw [d.current, hc]; rfl
  have hnone : t.engine.refresh = none → s.engine.refresh = none := fun hr => by
    rw [← Option.not_isSome_iff_eq_none, ← d.opened, Option.not_isSome_iff_eq_none, hr]
  cases h.phase running with
  | busy o op state closed current cancelled owned strokeModule service =>
    have hm := free o op
    have hline : ∀ k, moduleOf k ≠ m → (∃ c, s.engine.current = some c ∧ c.line = k) →
        ∃ c, t.engine.current = some c ∧ c.line = k := fun k hk ⟨c, hc, hl⟩ => ⟨c, still c hc (hl ▸ hk), hl⟩
    have hcanc : ∀ k, (∃ w, s.engine.cancelled = some w ∧ w.line = k) →
        ∃ w, t.engine.cancelled = some w ∧ w.line = k := fun k hk => by rwa [d.cancelled]
    refine Or.inl (.busy o (d.operation.trans op) (d.state.trans state) (fun hr => ?_) (fun c hc => ?_)
      (fun w hw => ?_) ?_ strokeModule ?_)
    · exact ⟨gone (closed (hnone hr)).1, d.cancelled.trans (closed (hnone hr)).2⟩
    · rw [d.queue, List.mem_filter]
      rw [d.current, Option.filter_eq_some_iff] at hc
      exact ⟨current c hc.1, hc.2⟩
    · rw [d.cancelled] at hw
      exact ⟨gone (cancelled w hw).1, (cancelled w hw).2⟩
    · unfold operationOwned at owned ⊢
      rw [op] at owned
      rw [d.operation, op]
      rcases o with r | ⟨k, l⟩
      · exact owned.imp (hline _ hm) (hcanc _)
      · cases k with
        | pre => exact owned.imp (hline _ hm) (hcanc _)
        | verify => exact owned.imp (hline _ hm) (hcanc _)
        | cancel => exact hcanc _ owned
        | sweep => exact ⟨d.stage.trans owned.1, gone owned.2.1, d.cancelled.trans owned.2.2⟩
        | audit => exact ⟨d.stage.trans owned.1, gone owned.2.1, d.cancelled.trans owned.2.2⟩
        | _ =>
          refine ⟨d.stage.trans owned.1, gone owned.2.1, d.cancelled.trans owned.2.2.1, ?_⟩
          rw [d.returns, List.mem_filter]
          exact ⟨owned.2.2.2, by simpa [operationLine] using hm⟩
    · rw [d.service _ hm]
      exact service
  | waiting c quiet state current queued opened cancelled =>
    by_cases hm : moduleOf c.line = m
    · refine Or.inr ⟨d.opened ▸ opened, d.operation.trans quiet, d.cancelled.trans cancelled,
        d.current_none fun e he => ?_, fun hs => ?_⟩
      · rw [current] at he
        cases he
        exact hm
      · rw [d.state, state] at hs
        cases hs
    · refine Or.inl (.waiting c (d.operation.trans quiet) (d.state.trans state) (still c current hm) ?_
        (d.opened ▸ opened) (d.cancelled.trans cancelled))
      rw [d.queue, List.mem_filter]
      exact ⟨queued, by simpa using hm⟩
  | rest quiet current cancelled returns resting =>
    have hreturns : t.engine.returnList = [] := by rw [d.returns, returns]; rfl
    by_cases hopen : s.engine.refresh.isSome
    · exact Or.inr ⟨d.opened ▸ hopen, d.operation.trans quiet, d.cancelled.trans cancelled, gone current,
        fun _ => hreturns⟩
    · refine Or.inl (.rest (d.operation.trans quiet) (gone current) (d.cancelled.trans cancelled) hreturns
        (.idle ?_ ?_))
      · cases resting with
        | idle state _ => exact d.state.trans state
        | deferred _ opened _ => exact absurd opened hopen
        | held _ opened _ _ => exact absurd opened hopen
      · rwa [← Option.not_isSome_iff_eq_none, d.opened]

/-! ### Lines that wait for their return sense (R117) -/

/-- Lines added to the return-sense list, no line twice. -/
theorem foldl_addReturn (ls : List Line) : ∀ s : State, ls.Nodup →
    ls.foldl State.addReturn s = s.setEngine { s.engine with
      returnList := s.engine.returnList ++ ls.filter fun l => !s.engine.returnList.contains l } := by
  induction ls with
  | nil => intro s _; simp [State.setEngine]
  | cons k ls ih =>
    intro s hnd
    obtain ⟨hk, hls⟩ := List.nodup_cons.1 hnd
    rw [List.foldl_cons, ih _ hls]
    unfold State.addReturn
    split
    · rename_i hmem
      rw [List.filter_cons, if_neg (by rw [hmem]; simp)]
    · rename_i hmem
      have hfilter : (ls.filter fun l => !(s.engine.returnList ++ [k]).contains l) =
          ls.filter fun l => !s.engine.returnList.contains l := by
        refine List.filter_congr fun l hl => ?_
        have hne : l ≠ k := fun h => hk (h ▸ hl)
        simp [hne]
      simp only [State.setEngine_engine, hfilter, List.filter_cons, hmem, Bool.not_false, if_true, List.append_assoc,
        List.singleton_append]
      rfl

theorem nodup_linesOf (m : ModuleId) : (linesOf m).Nodup := by revert m; decide +kernel

/-- Lines in service join the return-sense list; a resting engine senses the first at once. -/
theorem EngineOk.kickReturn {t : State} {list : List Line} (h : EngineOk s) (running : s.stage = .running)
    (ht : t = s.setEngine { s.engine with returnList := list })
    (more : ∀ l ∈ s.engine.returnList, l ∈ list) (service : ∀ l ∈ list, s.lineInService l = true) :
    EngineOk t.kickReturn := by
  subst ht
  have st := h.statics running
  have st' : Statics (s.setEngine { s.engine with returnList := list }) :=
    ⟨st.running, st.closed, st.once, st.service, service, st.audit⟩
  unfold State.kickReturn
  cases h.phase running with
  | busy o op state closed current cancelled owned strokeModule hservice =>
    rw [if_neg (by simp [State.quiet, op])]
    refine Phase.engineOk (.busy o op state closed current cancelled ?_ strokeModule hservice) st'
    unfold operationOwned at owned ⊢
    rw [op] at owned
    rw [State.setEngine_modules, op]
    rcases o with r | ⟨k, l⟩
    · exact owned
    · cases k with
      | pre | verify | cancel | sweep | audit => exact owned
      | _ => exact ⟨owned.1, owned.2.1, owned.2.2.1, more _ owned.2.2.2⟩
  | waiting c quiet state current queued opened cancelled =>
    rw [if_neg (by simp [state])]
    exact Phase.engineOk (.waiting c quiet state current queued opened cancelled) st'
  | rest quiet current cancelled returns resting =>
    rw [if_pos (by simpa [State.quiet, quiet, or_assoc] using resting.state)]
    refine engineOk_startReturn st' quiet current cancelled ?_
    cases resting with
    | idle state closed => exact .idle state closed
    | deferred state opened queue => exact .deferred state opened queue
    | held state opened queue ready => exact .held state opened queue ready

/-! ### CANCEL (R27, R28) -/

/-- The work in flight on a line is that of the operation. -/
theorem operationLine_of_workInFlight {o : Operation} {l : Line}
    (op : s.modules.operation = some o) (owned : operationOwned s)
    (cancelled : ∀ w, s.engine.cancelled = some w → s.engine.current = none ∧ w.line = operationLine o)
    (work : s.workInFlight l = true) : l = operationLine o ∧ (∀ c, s.engine.current = some c → c.line = l) ∧
      ∀ k, o ≠ .sense .audit k ∧ o ≠ .sense .return k := by
  obtain ⟨-, hwork⟩ := (workInFlight_iff s l).1 work
  have notIdle : ¬ (s.engine.current = none ∧ s.engine.cancelled = none) := by
    rintro ⟨h1, h2⟩
    rcases hwork with ⟨c, hc, -⟩ | ⟨w, hw, -⟩
    · rw [h1] at hc; cases hc
    · rw [h2] at hw; cases hw
  unfold operationOwned at owned
  rw [op] at owned
  have byCurrent : ∀ c, s.engine.current = some c → c.line = operationLine o := fun c hc => by
    have notCancelled : ¬ ∃ w, s.engine.cancelled = some w := by
      rintro ⟨w, hw⟩
      rw [(cancelled w hw).1] at hc
      cases hc
    have fromOwner : (∃ d, s.engine.current = some d ∧ d.line = operationLine o) ∨
        (∃ w, s.engine.cancelled = some w ∧ w.line = operationLine o) → c.line = operationLine o := by
      rintro (⟨d, hd, hl⟩ | ⟨w, hw, -⟩)
      · rw [hc] at hd
        cases hd
        exact hl
      · exact absurd ⟨w, hw⟩ notCancelled
    rcases o with r | ⟨k, m⟩
    · exact fromOwner owned
    · cases k with
      | pre => exact fromOwner owned
      | verify => exact fromOwner owned
      | cancel => exact fromOwner (Or.inr owned)
      | sweep => rw [owned.2.1] at hc; cases hc
      | audit => rw [owned.2.1] at hc; cases hc
      | _ => rw [owned.2.1] at hc; cases hc
  have hline : l = operationLine o := by
    rcases hwork with ⟨c, hc, rfl⟩ | ⟨w, hw, rfl⟩
    · exact byCurrent c hc
    · exact (cancelled w hw).2
  refine ⟨hline, fun c hc => (byCurrent c hc).trans hline.symm, fun k => ⟨?_, ?_⟩⟩
  · rintro rfl
    exact notIdle owned.2
  · rintro rfl
    exact notIdle ⟨owned.2.1, owned.2.2.1⟩

theorem engine_cancelLine (who : Identity) (s : State) (l : Line) : (State.cancelLine who s l).engine =
    { s.engine with
      queue := s.engine.queue.filter (· != l)
      refresh := s.engine.refresh.map fun r => { r with unsettled := r.unsettled.set l false }
      stale := Table.tab fun z => s.engine.stale.get z && zoneLine z != l
      current := s.engine.current.filter fun c => c.line != l
      cancelled := if s.workInFlight l then some ⟨l, who, true, s.settings.verify⟩ else s.engine.cancelled } := by
  unfold State.cancelLine
  dsimp only
  split <;> rfl

theorem modules_cancelLine (who : Identity) (s : State) (l : Line) :
    (State.cancelLine who s l).modules = s.modules := by
  unfold State.cancelLine
  dsimp only
  split <;> rfl

theorem stage_cancelLine (who : Identity) (s : State) (l : Line) : (State.cancelLine who s l).stage = s.stage := by
  unfold State.cancelLine
  dsimp only
  split <;> rfl

/-- A line that a CANCEL takes back leaves an engine which may choose. -/
theorem Choosable.cancelLine (h : Choosable s) (who : Identity) (l : Line) : Choosable (State.cancelLine who s l) := by
  obtain ⟨st, phase⟩ := h
  have modules := modules_cancelLine who s l
  have stage := stage_cancelLine who s l
  have service : (State.cancelLine who s l).lineInService = s.lineInService := by
    funext k
    rw [State.lineInService, State.lineInService, State.lineModule, State.lineModule, State.moduleState,
      State.moduleState, modules]
  have engine := engine_cancelLine who s l
  have quietWork : s.modules.operation = none → s.workInFlight l = false := fun hq => by
    simp [State.workInFlight, State.quiet, hq]
  generalize State.cancelLine who s l = t at *
  have hnone : t.engine.refresh = none ↔ s.engine.refresh = none := by rw [engine]; simp
  have hsome : t.engine.refresh.isSome = s.engine.refresh.isSome := by rw [engine]; simp
  have queue : t.engine.queue = s.engine.queue.filter (· != l) := by rw [engine]
  have current : t.engine.current = s.engine.current.filter fun c => c.line != l := by rw [engine]
  have returns : t.engine.returnList = s.engine.returnList := by rw [engine]
  have state : t.engine.state = s.engine.state := by rw [engine]
  have cancelled : t.engine.cancelled =
      if s.workInFlight l then some ⟨l, who, true, s.settings.verify⟩ else s.engine.cancelled := by rw [engine]
  refine ⟨⟨stage.trans st.running, fun hr => ?_, ?_, fun k hk => ?_, fun k hk => ?_, fun ha => ?_⟩, ?_⟩
  · rw [queue, st.closed (hnone.1 hr)]
    rfl
  · rw [queue]
    exact st.once.filter _
  · rw [queue, List.mem_filter] at hk
    rw [service]
    exact st.service k hk.1
  · rw [returns] at hk
    rw [service]
    exact st.returnService k hk
  · rw [engine] at ha
    exact hnone.2 (st.audit ha)
  have free : s.engine.refresh.isSome → s.modules.operation = none → s.engine.cancelled = none →
      t.engine.current = none → (s.engine.state = .deferred → s.engine.returnList = []) →
      t.engine.refresh.isSome ∧ t.modules.operation = none ∧ t.engine.cancelled = none ∧ t.engine.current = none ∧
        (t.engine.state = .deferred → t.engine.returnList = []) := fun h1 h2 h3 h4 h5 => by
    refine ⟨hsome ▸ h1, modules ▸ h2, ?_, h4, ?_⟩
    · rw [cancelled, quietWork h2, if_neg (by simp), h3]
    · rw [state, returns]
      exact h5
  rcases phase with hp | ⟨h1, h2, h3, h4, h5⟩
  · cases hp with
    | busy o op hstate closed hcurrent hcancelled owned strokeModule hservice =>
      refine Or.inl ?_
      cases work : s.workInFlight l with
      | true =>
        obtain ⟨hline, hcur, hkind⟩ := operationLine_of_workInFlight op owned hcancelled work
        have hcurnone : t.engine.current = none := by
          rw [current, Option.filter_eq_none_iff]
          intro c hc
          simp [hcur c hc]
        rw [work, if_pos rfl] at cancelled
        refine .busy o (modules ▸ op) (state.trans hstate) (fun hr => ?_) (fun c hc => ?_) (fun w hw => ?_) ?_
          strokeModule (by rw [service]; exact hservice)
        · obtain ⟨hc, hw⟩ := closed (hnone.1 hr)
          obtain ⟨-, ⟨c, hc', -⟩ | ⟨w, hw', -⟩⟩ := (workInFlight_iff s l).1 work
          · rw [hc] at hc'; cases hc'
          · rw [hw] at hw'; cases hw'
        · rw [hcurnone] at hc; cases hc
        · rw [cancelled] at hw
          cases hw
          exact ⟨hcurnone, hline⟩
        · have hw : ∃ w, t.engine.cancelled = some w ∧ w.line = operationLine o := ⟨_, cancelled, hline⟩
          unfold operationOwned at owned ⊢
          rw [op] at owned
          rw [modules, op]
          rcases o with r | ⟨k, m⟩
          · exact Or.inr hw
          · cases k with
            | pre => exact Or.inr hw
            | verify => exact Or.inr hw
            | cancel => exact hw
            | sweep => exact absurd (owned.1.symm.trans st.running) (by simp)
            | audit => exact absurd rfl (hkind m).1
            | _ => exact absurd rfl (hkind m).2
      | false =>
        have hcur : ∀ c, s.engine.current = some c → c.line ≠ l := fun c hc hl => by
          have := (workInFlight_iff s l).2 ⟨by simp [State.quiet, op], Or.inl ⟨c, hc, hl⟩⟩
          rw [work] at this
          cases this
        have hsame : t.engine.current = s.engine.current := by
          rw [current]
          cases hc : s.engine.current with
          | none => rfl
          | some c => simp [hcur c hc]
        rw [work, if_neg (by simp)] at cancelled
        have howned : operationOwned t = operationOwned s := by
          simp only [operationOwned, modules, hsame, cancelled, returns, stage]
        refine .busy o (modules ▸ op) (state.trans hstate) (fun hr => ?_) (fun c hc => ?_) (fun w hw => ?_)
          (howned ▸ owned) strokeModule (by rw [service]; exact hservice)
        · rw [hsame, cancelled]
          exact closed (hnone.1 hr)
        · rw [hsame] at hc
          rw [queue, List.mem_filter]
          exact ⟨hcurrent c hc, by simpa using hcur c hc⟩
        · rw [cancelled] at hw
          rw [hsame]
          exact hcancelled w hw
    | waiting c quiet hstate hcurrent queued opened hcancelled =>
      by_cases hl : c.line = l
      · refine Or.inr (free opened quiet hcancelled ?_ fun hs => by rw [hstate] at hs; cases hs)
        rw [current, hcurrent]
        simp [hl]
      · refine Or.inl (.waiting c (modules ▸ quiet) (state.trans hstate) ?_ ?_ (hsome ▸ opened) ?_)
        · rw [current, hcurrent]
          simp [hl]
        · rw [queue, List.mem_filter]
          exact ⟨queued, by simpa using hl⟩
        · rw [cancelled, quietWork quiet, if_neg (by simp), hcancelled]
    | rest quiet hcurrent hcancelled hreturns resting =>
      have hcur : t.engine.current = none := by rw [current, hcurrent]; rfl
      by_cases hopen : s.engine.refresh.isSome
      · exact Or.inr (free hopen quiet hcancelled hcur fun _ => hreturns)
      · refine Or.inl (.rest (modules ▸ quiet) hcur ?_ (returns.trans hreturns) (.idle ?_ ?_))
        · rw [cancelled, quietWork quiet, if_neg (by simp), hcancelled]
        · cases resting with
          | idle hs _ => exact state.trans hs
          | deferred _ opened _ => exact absurd opened hopen
          | held _ opened _ _ => exact absurd opened hopen
        · rwa [← Option.not_isSome_iff_eq_none, hsome]
  · refine Or.inr (free h1 h2 h3 ?_ h5)
    rw [current, h4]
    rfl

theorem Choosable.cancelLines (who : Identity) (ls : List Line) : ∀ s : State, Choosable s →
    Choosable (ls.foldl (State.cancelLine who) s) := by
  induction ls with
  | nil => exact fun _ h => h
  | cons l ls ih => exact fun s h => ih _ (h.cancelLine who l)

/-- What follows the lines of a CANCEL. -/
theorem Choosable.afterCancel (h : Choosable s) (who : Identity) : EngineOk (s.afterCancel who) := by
  unfold State.afterCancel
  split
  · rename_i hfree
    simp only [Bool.and_eq_true, Option.isNone_iff_eq_none, quiet_iff] at hfree
    obtain ⟨⟨opened, quiet⟩, current⟩ := hfree
    have w := h.working opened quiet
    split
    · rename_i hqueue
      exact engineOk_closeDecision w current hqueue _
    · exact engineOk_choose w current
  · rename_i hbusy
    rcases h.phase with hp | ⟨opened, quiet, _, current, _⟩
    · exact hp.engineOk h.statics
    · exact absurd (by simp [opened, quiet_iff, quiet, current]) hbusy

end Sys2Proof.Machine
end

section
/-!
The refresh engine's invariant through every command after the sweep.
-/

namespace Sys2Proof.Machine

open Host (Outcome)

variable {s t : State}

/-! ### Waits, rest, and settings that act -/

/-- An engine that waits for charge may work on its current line. -/
theorem EngineOk.working_of_charging (h : EngineOk s) (running : s.stage = .running) (state : s.engine.state = .charging) :
    Working s ∧ ∀ c, s.engine.current = some c → c.line ∈ s.engine.queue := by
  refine ⟨?_, h.current⟩
  cases h.phase running with
  | busy o _ hstate _ _ _ _ _ _ =>
    rw [state] at hstate
    cases o <;> cases hstate
  | waiting c quiet _ _ _ opened cancelled => exact ⟨h.statics running, opened, quiet, cancelled⟩
  | rest _ _ _ _ resting =>
    rcases resting.state with hs | hs | hs <;> rw [state] at hs <;> cases hs

/-- An engine in DEFERRED or HELD may work, and has no current line. -/
theorem EngineOk.working_of_resting (h : EngineOk s) (running : s.stage = .running)
    (state : s.engine.state = .deferred ∨ s.engine.state = .held) : Working s ∧ s.engine.current = none := by
  cases h.phase running with
  | busy o _ hstate _ _ _ _ _ _ =>
    rcases state with hs | hs <;> rw [hs] at hstate <;> cases o <;> cases hstate
  | waiting c _ hstate _ _ _ _ => rcases state with hs | hs <;> rw [hs] at hstate <;> cases hstate
  | rest quiet current cancelled _ resting =>
    refine ⟨⟨h.statics running, ?_, quiet, cancelled⟩, current⟩
    rcases state with hs | hs
    · exact (h.deferred hs).1
    · exact (h.held hs).1

theorem EngineOk.compareReady (h : EngineOk s) (running : s.stage = .running) : EngineOk s.compareReady := by
  unfold State.compareReady
  split
  · rename_i c hc
    split
    · rename_i hwait
      obtain ⟨w, queued⟩ := h.working_of_charging running hwait.1
      exact engineOk_packingPoint w (queued c hc)
    · exact h
  · exact h

theorem EngineOk.closeDeferred (h : EngineOk s) (running : s.stage = .running) (state : s.engine.state = .deferred) :
    EngineOk (s.closeDecision none) := by
  obtain ⟨w, current⟩ := h.working_of_resting running (Or.inl state)
  exact engineOk_closeDecision w current (h.deferred state).2 none

theorem EngineOk.setEffect (h : EngineOk s) (running : s.stage = .running) (id : Nat) : EngineOk (s.setEffect id) := by
  unfold State.setEffect
  split
  · unfold State.deferSet
    split
    · split
      · rename_i state
        exact h.closeDeferred running state
      · exact h
    · split
      · exact h
      · exact h.same_work (SameWork.updRefresh s _)
  · exact h.compareReady running
  · exact h.compareReady running
  · unfold State.chargerIdleSet
    split
    · exact h.same_work (SameWork.setReservoir s _)
    · exact h
  · unfold State.auditSet
    split
    · rename_i idle
      exact h.setMarks running rfl rfl rfl rfl rfl rfl fun _ => h.idle idle
    · exact h
  · exact h

/-! ### Requests -/

/-- A service keeps the engine's invariant after the sweep. -/
def KeepsEngine (serve : Service) : Prop :=
  ∀ f s u, serve s f = .ok u → EngineOk s → s.stage = .running → EngineOk u

theorem serveIdentify_keepsEngine (l : Link) : KeepsEngine (serveIdentify l) := by
  rintro f s u h hs -
  cases h
  exact hs.same_work (SameWork.sendReply s _ _ _)

theorem serveStatus_keepsEngine (l : Link) : KeepsEngine (serveStatus l) := by
  rintro f s u h hs -
  cases h
  exact hs.same_work ((SameWork.setPort s _ _).trans (SameWork.sendReply _ _ _ _))

theorem serveReset_keepsEngine (l : Link) : KeepsEngine (serveReset l) := by
  rintro f s u h hs -
  cases h
  exact hs.same_work ((SameWork.sendReply s _ _ _).trans (SameWork.setPorts _ _))

theorem serveGet_keepsEngine (l : Link) : KeepsEngine (serveGet l) := by
  rintro f s u h hs -
  unfold serveGet at h
  split at h
  · split at h
    · cases h; exact hs.same_work (SameWork.sendReply s _ _ _)
    · split at h
      · cases h; exact hs.same_work (SameWork.sendReply s _ _ _)
      · cases h
  · cases h

theorem serveSet_keepsEngine (l : Link) : KeepsEngine (serveSet l) := by
  intro f s u h hs running
  have stored : ∀ x id v, SameWork s ((s.setSettings x).sendReply l f.tag (.settingStored id v)) := fun x id v =>
    (SameWork.setSettings s x).trans (SameWork.sendReply _ _ _ _)
  unfold serveSet at h
  split at h
  · dsimp only at h
    split at h
    · cases h
      exact ((hs.same_work (stored _ _ _)).setEffect ((stored _ _ _).stage.trans running) _).settle
    · split at h
      · cases h
      · split at h
        · split at h
          · cases h
          · split at h
            · cases h
            · cases h; exact hs.same_work (stored _ _ _)
        · cases h
  · cases h

theorem serveWriteCells_keepsEngine (l : Link) : KeepsEngine (serveWriteCells l) := by
  rintro f s u h hs -
  unfold serveWriteCells at h
  split at h
  · split at h
    · split at h
      · dsimp only at h
        split at h
        · cases h; exact hs.same_work ((SameWork.setPage s _).trans (SameWork.sendReply _ _ _ _))
        · cases h; exact hs.same_work (SameWork.sendReply s _ _ _)
      · cases h
    · cases h
  · cases h

theorem serveFillLines_keepsEngine (l : Link) : KeepsEngine (serveFillLines l) := by
  rintro f s u h hs -
  unfold serveFillLines at h
  split at h
  · split at h
    · split at h
      · cases h
        exact hs.same_work ((SameWork.foldl _ (fun s _ => SameWork.setPage s _) _ s).trans (SameWork.sendReply _ _ _ _))
      · cases h
    · cases h
  · cases h

theorem serveShow_keepsEngine (l : Link) : KeepsEngine (serveShow l) := by
  intro f s u h hs running
  unfold serveShow at h
  split at h
  · cases h
  · rename_i lines _
    cases h
    have told := SameWork.sendReply s l f.tag (s.showReply (s.dirtyLines lines))
    exact ((hs.same_work told).commit (told.stage.trans running) _ _).settle

theorem serveCancel_keepsEngine (l : Link) : KeepsEngine (serveCancel l) := by
  intro f s u h hs running
  unfold serveCancel at h
  split at h
  · cases h
  · cases h
    refine (Choosable.afterCancel (Choosable.cancelLines _ _ _ ?_) _).settle
    exact (hs.choosable running).same_work ((SameWork.sendReply s _ _ _).trans (SameWork.promptIf _ _))

theorem serveReadImage_keepsEngine (l : Link) : KeepsEngine (serveReadImage l) := by
  rintro f s u h hs -
  unfold serveReadImage at h
  split at h
  · split at h
    · cases h; exact hs.same_work (SameWork.sendReply s _ _ _)
    · cases h
  · cases h

theorem servePaneList_keepsEngine (l : Link) : KeepsEngine (servePaneList l) := by
  rintro f s u h hs -
  cases h
  exact hs.same_work (SameWork.sendReply s _ _ _)

theorem servePaneSplit_keepsEngine (l : Link) : KeepsEngine (servePaneSplit l) := by
  rintro f s u h hs -
  unfold servePaneSplit at h
  split at h
  · split at h
    · cases h
    · split at h
      · cases h
      · split at h
        · split at h
          · cases h
          · cases h
            exact (hs.same_work ((SameWork.setPanes s _).trans ((SameWork.sendReply _ _ _ _).trans
              (SameWork.promptIf _ _)))).settle
        · cases h
  · cases h

theorem servePaneMerge_keepsEngine (l : Link) : KeepsEngine (servePaneMerge l) := by
  rintro f s u h hs -
  unfold servePaneMerge at h
  split at h
  · split at h
    · cases h
    · split at h
      · cases h
      · split at h
        · cases h
          exact (hs.same_work ((SameWork.setPanes s _).trans ((SameWork.sendReply _ _ _ _).trans
            (SameWork.promptIf _ _)))).settle
        · cases h
  · cases h

theorem servePaneGrant_keepsEngine (l : Link) : KeepsEngine (servePaneGrant l) := by
  rintro f s u h hs -
  unfold servePaneGrant at h
  split at h
  · split at h
    · cases h
    · split at h
      · cases h
      · split at h
        · cases h
        · dsimp only at h
          have told := fun r => SameWork.sendReply s l f.tag r
          split at h
          · cases h; exact hs.same_work (told _)
          · cases h
            exact (hs.same_work ((told _).trans ((SameWork.setPanes _ _).trans ((SameWork.stagingToTarget _ _).trans
              (SameWork.promptIf _ _))))).settle
  · cases h

theorem serveFaultList_keepsEngine (l : Link) : KeepsEngine (serveFaultList l) := by
  rintro f s u h hs -
  unfold serveFaultList at h
  split at h
  · split at h
    · cases h; exact hs.same_work (SameWork.sendReply s _ _ _)
    · cases h
  · cases h

theorem EngineOk.clearFaults (h : EngineOk s) (running : s.stage = .running) (test : FaultEntry → Bool) :
    EngineOk (s.clearFaults test) := by
  unfold State.clearFaults
  refine (Choosable.catchUp ((h.choosable running).same_work ?_) _).engineOk_kick
  exact (SameWork.setHealth s _).trans ((SameWork.promptIf _ _).trans
    (SameWork.foldl _ (fun s _ => SameWork.setPage s _) _ _))

theorem serveFaultClear_keepsEngine (l : Link) : KeepsEngine (serveFaultClear l) := by
  intro f s u h hs running
  unfold serveFaultClear at h
  split at h
  · cases h
  · dsimp only at h
    have told := fun r => SameWork.sendReply s l f.tag r
    split at h
    · cases h; exact hs.same_work (told _)
    · cases h
      exact ((hs.same_work (told _)).clearFaults ((told _).stage.trans running) _).settle

theorem serveTrimList_keepsEngine (l : Link) : KeepsEngine (serveTrimList l) := by
  rintro f s u h hs -
  cases h
  exact hs.same_work (SameWork.sendReply s _ _ _)

theorem serveWearRead_keepsEngine (l : Link) : KeepsEngine (serveWearRead l) := by
  rintro f s u h hs -
  unfold serveWearRead at h
  split at h
  · dsimp only at h
    split at h
    · cases h; exact hs.same_work (SameWork.sendReply s _ _ _)
    · cases h
  · cases h

theorem serveRecordCommit_keepsEngine (l : Link) : KeepsEngine (serveRecordCommit l) := by
  rintro f s u h hs -
  unfold serveRecordCommit at h
  split at h
  · cases h
  · cases h
    exact hs.same_work ((SameWork.setStore s _).trans (SameWork.sendReply _ _ _ _))

theorem serveModuleReset_keepsEngine (l : Link) (reading : Int) : KeepsEngine (serveModuleReset l reading) := by
  intro f s u h hs running
  unfold serveModuleReset at h
  split at h
  · split at h
    · cases h
    · rename_i m _
      split at h
      · cases h
      · split at h
        · cases h
        · rename_i free
          cases h
          have told := SameWork.sendReply s l f.tag (.moduleReset m .starting)
          refine (EngineOk.choosable_drop (hs.same_work told) (told.stage.trans running)
            (dropped_enterStarting _ m reading) fun o ho hm => ?_).engineOk_kick.settle
          rw [told.modules] at ho
          exact free ((moduleBusy_iff s m).2 ⟨o, ho, hm⟩)
  · cases h

/-- Every request row is the taking of a request by a service that keeps the engine's invariant. -/
theorem exec_request_keepsEngine {c : Instr} {lk : Link × RequestKind} (h : requestOf c = some lk) :
    ∃ serve : Service, (∀ s, exec c s = s.take lk.1 lk.2 serve) ∧ KeepsEngine serve := by
  cases c with
  | identify l => cases h; exact ⟨_, fun _ => rfl, serveIdentify_keepsEngine l⟩
  | status l => cases h; exact ⟨_, fun _ => rfl, serveStatus_keepsEngine l⟩
  | getSetting l => cases h; exact ⟨_, fun _ => rfl, serveGet_keepsEngine l⟩
  | setSetting l => cases h; exact ⟨_, fun _ => rfl, serveSet_keepsEngine l⟩
  | writeCells l => cases h; exact ⟨_, fun _ => rfl, serveWriteCells_keepsEngine l⟩
  | fillLines l => cases h; exact ⟨_, fun _ => rfl, serveFillLines_keepsEngine l⟩
  | showPanes l => cases h; exact ⟨_, fun _ => rfl, serveShow_keepsEngine l⟩
  | cancel l => cases h; exact ⟨_, fun _ => rfl, serveCancel_keepsEngine l⟩
  | readImage l => cases h; exact ⟨_, fun _ => rfl, serveReadImage_keepsEngine l⟩
  | paneList l => cases h; exact ⟨_, fun _ => rfl, servePaneList_keepsEngine l⟩
  | paneSplit l => cases h; exact ⟨_, fun _ => rfl, servePaneSplit_keepsEngine l⟩
  | paneMerge l => cases h; exact ⟨_, fun _ => rfl, servePaneMerge_keepsEngine l⟩
  | paneGrant l => cases h; exact ⟨_, fun _ => rfl, servePaneGrant_keepsEngine l⟩
  | faultList l => cases h; exact ⟨_, fun _ => rfl, serveFaultList_keepsEngine l⟩
  | faultClear l => cases h; exact ⟨_, fun _ => rfl, serveFaultClear_keepsEngine l⟩
  | trimList l => cases h; exact ⟨_, fun _ => rfl, serveTrimList_keepsEngine l⟩
  | wearRead l => cases h; exact ⟨_, fun _ => rfl, serveWearRead_keepsEngine l⟩
  | recordCommit l => cases h; exact ⟨_, fun _ => rfl, serveRecordCommit_keepsEngine l⟩
  | moduleReset l reading => cases h; exact ⟨_, fun _ => rfl, serveModuleReset_keepsEngine l reading⟩
  | reset l => cases h; exact ⟨_, fun _ => rfl, serveReset_keepsEngine l⟩
  | _ => cases h

theorem EngineOk.take {l : Link} {k : RequestKind} {serve : Service} (h : EngineOk s) (running : s.stage = .running)
    (hserve : KeepsEngine serve) (ht : s.take l k serve = .next t) : EngineOk t := by
  obtain ⟨f, -, -, ⟨why, rfl⟩ | ⟨-, hu⟩⟩ := take_cases ht
  · exact h.same_work (SameWork.turnedAway s l f why)
  · exact hserve f _ t hu (h.same_work (SameWork.popFrame s l)) ((SameWork.popFrame s l).stage.trans running)

/-! ### Events that leave the engine's work as it is -/

/-- What the events of the links and the record store do, and those of the zones but a release. -/
theorem sameWork_of_link_event {l : Link} :
    (∀ b, execByteReceived l b s = .next t → SameWork s t) ∧ (execGapTimerExpiry l s = .next t → SameWork s t) ∧
    (execFrameSent l s = .next t → SameWork s t) ∧ (execUnknownKindRequest l s = .next t → SameWork s t) := by
  refine ⟨fun b h => ?_, fun h => ?_, fun h => ?_, fun h => ?_⟩
  · unfold execByteReceived at h
    split at h
    · cases h; exact SameWork.setPort s _ _
    · cases h; exact SameWork.refl s
  · unfold execGapTimerExpiry at h
    split at h
    · cases h
    · cases h; exact SameWork.setPort s _ _
  · unfold execFrameSent at h
    split at h
    · cases h; exact SameWork.setPort s _ _
    · cases h
  · unfold execUnknownKindRequest at h
    split at h
    · cases h
    · split at h
      · cases h
      · cases h; exact SameWork.turnedAway s _ _ _

theorem sameWork_of_presence : (execPresenceLost s = .next t → SameWork s t) ∧
    (execPresenceGained s = .next t → SameWork s t) := by
  refine ⟨fun h => ?_, fun h => ?_⟩
  · unfold execPresenceLost at h
    split at h
    · split at h
      · cases h
        exact (SameWork.setPorts s _).trans ((SameWork.setPanes _ _).trans ((SameWork.stagingToTarget _ _).trans
          (SameWork.updRefresh _ _)))
      · cases h; exact SameWork.setPorts s _
    · cases h
  · unfold execPresenceGained at h
    split at h
    · cases h
    · cases h; exact SameWork.setPorts s _

theorem sameWork_of_recordWriteComplete (h : execRecordWriteComplete s = .next t) : SameWork s t := by
  unfold execRecordWriteComplete at h
  split at h
  · cases h
  · cases h
    exact (SameWork.setStore s _).trans ((SameWork.setPorts _ _).trans (SameWork.notify _ _ _))

theorem sameWork_of_readZone {z : ZoneId} {present : Bool} {move : ZoneState → Option ZoneState}
    (h : s.readZone z present move = .next t) : SameWork s t := by
  unfold State.readZone at h
  dsimp only at h
  split at h
  · cases h
  · split at h
    · cases h; exact SameWork.setZones s _
    · split at h
      · cases h
      · split at h
        · cases h
        · cases h; exact SameWork.setZones s _

theorem sameWork_of_armingTimerExpiry {z : ZoneId} (h : execArmingTimerExpiry z s = .next t) : SameWork s t := by
  unfold execArmingTimerExpiry at h
  dsimp only at h
  split at h
  · cases h; exact (SameWork.setZones s _).trans (SameWork.touchNotice _ _ _)
  · cases h

theorem sameWork_of_chargerIdleExpiry (h : execChargerIdleExpiry s = .next t) : SameWork s t := by
  unfold execChargerIdleExpiry at h
  split at h
  · cases h; exact SameWork.setReservoir s _
  · cases h

/-! ### Ends of operations -/

/-- A stroke, or a sense pass of the current line or of a line that a CANCEL took. -/
def isLineWork : Operation → Bool
  | .stroke _ => true
  | .sense .pre _ | .sense .verify _ | .sense .cancel _ => true
  | .sense .sweep _ | .sense .audit _ | .sense .return _ => false

/-- Work on a line is that of the current line or of a CANCEL, in an open refresh. -/
theorem EngineOk.lineWork {o : Operation} (h : EngineOk s) (op : s.modules.operation = some o)
    (work : isLineWork o = true) : s.engine.refresh.isSome ∧
      ((∃ c, s.engine.current = some c ∧ c.line = operationLine o ∧ s.engine.cancelled = none) ∨
        ∃ w, s.engine.cancelled = some w ∧ w.line = operationLine o ∧ s.engine.current = none) := by
  have owned := h.owned
  unfold operationOwned at owned
  rw [op] at owned
  have owner : (∃ c, s.engine.current = some c ∧ c.line = operationLine o) ∨
      ∃ w, s.engine.cancelled = some w ∧ w.line = operationLine o := by
    rcases o with r | ⟨k, l⟩
    · exact owned
    · cases k with
      | pre => exact owned
      | verify => exact owned
      | cancel => exact Or.inr owned
      | _ => cases work
  refine ⟨?_, ?_⟩
  · rw [Option.isSome_iff_ne_none]
    intro hr
    obtain ⟨-, hc, hw⟩ := h.closed hr
    rcases owner with ⟨c, hc', -⟩ | ⟨w, hw', -⟩
    · rw [hc] at hc'; cases hc'
    · rw [hw] at hw'; cases hw'
  · rcases owner with ⟨c, hc, hl⟩ | ⟨w, hw, hl⟩
    · refine Or.inl ⟨c, hc, hl, ?_⟩
      cases hw : s.engine.cancelled with
      | none => rfl
      | some w => rw [(h.cancelled w hw).1] at hc; cases hc
    · exact Or.inr ⟨w, hw, hl, (h.cancelled w hw).1⟩

/-- An audit or a return sense has no current line and no CANCEL. -/
theorem EngineOk.idleWork {k : SenseKind} {l : Line} (h : EngineOk s) (op : s.modules.operation = some (.sense k l))
    (kind : k = .audit ∨ k = .return) : s.engine.current = none ∧ s.engine.cancelled = none := by
  have owned := h.owned
  unfold operationOwned at owned
  rw [op] at owned
  rcases kind with rfl | rfl
  · exact owned.2
  · exact ⟨owned.2.1, owned.2.2.1⟩

theorem EngineOk.statics_end (h : EngineOk s) (running : s.stage = .running) (k : SameWork (s.setOperation none) t) :
    Statics t :=
  ((h.statics running).of_lists (t := s.setOperation none) rfl (fun _ h => h) rfl rfl Iff.rfl Or.inl).same_work k

/-- What follows the end of work on a line: the end of a CANCEL's work, or what the current line goes on with. -/
theorem EngineOk.afterLineWork {o : Operation} {go : Current → State} (h : EngineOk s) (running : s.stage = .running)
    (op : s.modules.operation = some o) (work : isLineWork o = true) (k : SameWork (s.setOperation none) t)
    (goes : ∀ c, s.engine.current = some c → c.line ∈ t.engine.queue → Working t → EngineOk (go c)) :
    EngineOk (t.afterLineWork go) := by
  have st := h.statics_end running k
  have quiet : t.modules.operation = none := by rw [k.modules]; rfl
  obtain ⟨opened, owner⟩ := h.lineWork op work
  have opened : t.engine.refresh.isSome := by rw [k.refresh_isSome]; exact opened
  unfold State.afterLineWork
  rcases owner with ⟨c, hc, -, hw⟩ | ⟨w, hw, -, hc⟩
  · rw [k.cancelled.trans hw, k.current.trans hc]
    exact goes c hc (k.queue ▸ h.current c hc) ⟨st, opened, quiet, k.cancelled.trans hw⟩
  · rw [k.cancelled.trans hw]
    exact engineOk_endCancel st opened quiet (k.current.trans hc) w

theorem sensing_eq_some {k : SenseKind} {l : Line} : s.sensing k = some l ↔
    s.modules.operation = some (.sense k l) := by
  unfold State.sensing
  rcases s.modules.operation with _ | (r | ⟨kind, m⟩)
  · simp
  · simp
  · by_cases hk : kind = k <;> simp [hk]

theorem sameWork_endSense (s : State) (l : Line) (states : Content) :
    SameWork (s.setOperation none) (s.endSense l states) := .of_eq rfl rfl rfl

theorem EngineOk.preSenseComplete {states : Content} (h : EngineOk s) (running : s.stage = .running)
    (ht : execPreSenseComplete states s = .next t) : EngineOk t := by
  unfold execPreSenseComplete at ht
  split at ht
  · cases ht
  · rename_i l hl
    cases ht
    exact (h.afterLineWork running (sensing_eq_some.1 hl) rfl (sameWork_endSense s l states)
      fun c _ queued w => engineOk_packingPoint (c := ⟨c.line, startRound⟩) w queued).settle

theorem EngineOk.verifySenseComplete {result : VerifyResult} (h : EngineOk s) (running : s.stage = .running)
    (ht : execVerifySenseComplete result s = .next t) : EngineOk t := by
  unfold execVerifySenseComplete at ht
  split at ht
  · cases ht
  · rename_i l hl
    cases ht
    refine (h.afterLineWork running (sensing_eq_some.1 hl) rfl (sameWork_endSense s l result.states)
      fun c _ queued w => ?_).settle
    have k := SameWork.updateTrims (s.endSense l result.states) ⟨c.line, c.round.sensedNow⟩ (s.sensed l)
      result.trimLists
    unfold State.verifyDecision
    dsimp only
    split
    · exact engineOk_packingPoint (c := ⟨c.line, c.round.sensedNow.next⟩) (w.same_work k) (k.queue ▸ queued)
    · exact engineOk_andChoose (packingOk_finishLine (w.same_work k) ⟨c.line, c.round.sensedNow⟩ _)

theorem EngineOk.cancelSenseComplete {states : Content} (h : EngineOk s) (running : s.stage = .running)
    (ht : execCancelSenseComplete states s = .next t) : EngineOk t := by
  unfold execCancelSenseComplete at ht
  split at ht
  · cases ht
  · rename_i l hl
    cases ht
    refine (h.afterLineWork running (sensing_eq_some.1 hl) rfl (sameWork_endSense s l states)
      fun c hc _ _ => ?_).settle
    have owned := h.owned
    unfold operationOwned at owned
    rw [sensing_eq_some.1 hl] at owned
    obtain ⟨w, hw, -⟩ := owned
    rw [(h.cancelled w hw).1] at hc
    cases hc

/-- A catch-up after an audit or return sense leaves the lists in order and nothing in flight. -/
theorem Statics.catchUndone (st : Statics s) (quiet : s.modules.operation = none) (current : s.engine.current = none)
    (cancelled : s.engine.cancelled = none) (l : Line) : Statics (s.catchUndone l) ∧
      (s.catchUndone l).modules.operation = none ∧ (s.catchUndone l).engine.current = none ∧
      (s.catchUndone l).engine.cancelled = none := by
  have same : Statics s ∧ s.modules.operation = none ∧ s.engine.current = none ∧ s.engine.cancelled = none :=
    ⟨st, quiet, current, cancelled⟩
  unfold State.catchUndone
  split
  · have caught := catchesUp_catchUp s [l] (List.nodup_singleton l)
    have nodup : (s.engine.queue ++ [l].filter fun l => s.lineInService l && !s.engine.queue.contains l).Nodup := by
      rw [List.filter_cons, List.filter_nil]
      split
      · rename_i hnew
        have hnew : l ∉ s.engine.queue := by simpa using (Bool.and_eq_true_iff.1 hnew).2
        exact List.nodup_append.2 ⟨st.once, List.nodup_singleton l, fun a ha b hb => by
          rw [List.mem_singleton] at hb
          rintro rfl
          exact hnew (hb ▸ ha)⟩
      · simpa using st.once
    have service : ∀ k ∈ s.engine.queue ++ [l].filter fun l => s.lineInService l && !s.engine.queue.contains l,
        s.lineInService k = true := fun k hk => by
      rcases List.mem_append.1 hk with hk | hk
      · exact st.service k hk
      · rw [List.mem_filter] at hk
        exact (Bool.and_eq_true_iff.1 hk.2).1
    cases hr : s.engine.refresh with
    | some r =>
      obtain ⟨u, -, he⟩ := caught.joins r hr
      rw [he]
      exact ⟨⟨st.running, nofun, nodup, service, st.returnService, fun ha => by
        have := st.audit ha
        rw [hr] at this
        cases this⟩, quiet, current, cancelled⟩
    | none =>
      by_cases hl : s.lineInService l = true
      · obtain ⟨u, -, he⟩ := caught.opens hr ⟨l, by simp, hl⟩
        rw [he]
        exact ⟨⟨st.running, nofun, nodup, service, st.returnService, nofun⟩, quiet, current, cancelled⟩
      · rw [caught.nothing hr fun k hk => by simpa [List.mem_singleton.1 hk] using hl]
        exact same
  · exact same

theorem EngineOk.auditSenseComplete {states : Content} (h : EngineOk s) (running : s.stage = .running)
    (ht : execAuditSenseComplete states s = .next t) : EngineOk t := by
  unfold execAuditSenseComplete at ht
  split at ht
  · cases ht
  · rename_i l hl
    cases ht
    obtain ⟨current, cancelled⟩ := h.idleWork (sensing_eq_some.1 hl) (Or.inl rfl)
    obtain ⟨st, hquiet, hcurrent, hcancelled⟩ :=
      (h.statics_end running (sameWork_endSense s l states)).catchUndone rfl current cancelled l
    exact (engineOk_leaveAudit st hquiet hcurrent hcancelled).settle

theorem Statics.dropReturn (st : Statics s) (l : Line) : Statics (s.dropReturn l) :=
  ⟨st.running, st.closed, st.once, st.service, fun k hk => st.returnService k (List.mem_filter.1 hk).1, st.audit⟩

theorem EngineOk.returnSenseComplete {states : Content} (h : EngineOk s) (running : s.stage = .running)
    (ht : execReturnSenseComplete states s = .next t) : EngineOk t := by
  unfold execReturnSenseComplete at ht
  split at ht
  · cases ht
  · rename_i l hl
    cases ht
    obtain ⟨current, cancelled⟩ := h.idleWork (sensing_eq_some.1 hl) (Or.inr rfl)
    obtain ⟨st, hquiet, hcurrent, hcancelled⟩ :=
      ((h.statics_end running (sameWork_endSense s l states)).dropReturn l).catchUndone rfl current cancelled l
    exact (engineOk_continueReturn st hquiet hcurrent hcancelled).settle

theorem strokeInFlight_eq_some {r : Stroke} : s.strokeInFlight = some r ↔
    s.modules.operation = some (.stroke r) := by
  unfold State.strokeInFlight
  rcases s.modules.operation with _ | (r | ⟨kind, m⟩) <;> simp

theorem sameWork_driven (s : State) (r : Stroke) :
    SameWork (s.setOperation none) ((s.assumeDriven r).setOperation none) := by
  have k := SameWork.assumeDriven s r
  exact ⟨k.engine, by show { (s.assumeDriven r).modules with operation := none } = _; rw [k.modules]; rfl, k.stage⟩

/-- A sense pass of a line that a CANCEL took. -/
theorem engineOk_senseCancel (st : Statics s) (opened : s.engine.refresh.isSome) (current : s.engine.current = none)
    {w : CancelWork} (cancelled : s.engine.cancelled = some w) (service : s.lineInService w.line = true) :
    EngineOk (s.startSense .cancel w.line) := by
  refine Phase.engineOk (.busy (.sense .cancel w.line) rfl rfl
    (fun hr => absurd hr (Option.isSome_iff_ne_none.1 opened)) (fun c hc => ?_) (fun v hv => ?_) ⟨w, cancelled, rfl⟩
    nofun service) (st.of_lists rfl (fun _ h => h) rfl rfl Iff.rfl Or.inl)
  · have hc : s.engine.current = some c := hc
    rw [current] at hc
    cases hc
  · have hv : s.engine.cancelled = some v := hv
    rw [cancelled] at hv
    cases hv
    exact ⟨current, rfl⟩

theorem EngineOk.strokeComplete (h : EngineOk s) (running : s.stage = .running)
    (ht : execStrokeComplete s = .next t) : EngineOk t := by
  unfold execStrokeComplete at ht
  split at ht
  · cases ht
  · rename_i r hr
    have op := strokeInFlight_eq_some.1 hr
    cases ht
    have k := sameWork_driven s r
    have st := h.statics_end running k
    obtain ⟨opened, owner⟩ := h.lineWork op rfl
    have opened : ((s.assumeDriven r).setOperation none).engine.refresh.isSome := by
      rw [k.refresh_isSome]; exact opened
    refine EngineOk.settle ?_
    rcases owner with ⟨c, hc, -, hw⟩ | ⟨w, hw, hline, hc⟩
    · rw [k.cancelled.trans hw, k.current.trans hc]
      exact engineOk_packingPoint ⟨st, opened, rfl, k.cancelled.trans hw⟩ (k.queue ▸ h.current c hc)
    · rw [k.cancelled.trans hw]
      show EngineOk (State.cancelledStroke _ w)
      unfold State.cancelledStroke
      split
      · refine engineOk_senseCancel st opened (k.current.trans hc) (k.cancelled.trans hw) ?_
        rw [k.lineInService, hline]
        exact h.operating _ op
      · exact engineOk_endCancel st opened rfl (k.current.trans hc) w

/-! ### Modules -/

/-- Work on a line ends with its module's leaving service: the end of a CANCEL's work, or the choice. -/
theorem EngineOk.faultedWork {o : Operation} {u v : State} (h : EngineOk s) (running : s.stage = .running)
    (op : s.modules.operation = some o) (work : isLineWork o = true) (k : SameWork (s.setOperation none) u)
    (d : Dropped (moduleOf (operationLine o)) u v) :
    (∀ w, v.engine.cancelled = some w → EngineOk (v.endCancel w)) ∧ (v.engine.cancelled = none → EngineOk v.kick) := by
  have st := (h.statics_end running k).drop d
  have quiet : v.modules.operation = none := d.operation.trans (by rw [k.modules]; rfl)
  obtain ⟨opened, owner⟩ := h.lineWork op work
  have opened : v.engine.refresh.isSome := by rw [d.opened, k.refresh_isSome]; exact opened
  have current : v.engine.current = none := d.current_none fun c hc => by
    have hc := k.current.symm.trans hc
    rcases owner with ⟨e, he, hl, -⟩ | ⟨w, -, -, hnone⟩
    · rw [← hl]
      have hc : s.engine.current = some c := hc
      rw [he] at hc
      cases hc
      rfl
    · have hc : s.engine.current = some c := hc
      rw [hnone] at hc
      cases hc
  refine ⟨fun w _ => engineOk_endCancel st opened quiet current w, fun hw => ?_⟩
  refine Choosable.engineOk_kick ⟨st, Or.inr ⟨opened, quiet, hw, current, fun hs => ?_⟩⟩
  have state : s.engine.state = .deferred := (d.state.trans k.state).symm.trans hs
  cases h.phase running with
  | busy o' _ hstate _ _ _ _ _ _ =>
    rw [state] at hstate
    cases o' <;> cases hstate
  | waiting c hq _ _ _ _ _ => rw [hq] at op; cases op
  | rest hq _ _ _ _ => rw [hq] at op; cases op

theorem EngineOk.moduleFaultReport {m : ModuleId} {cause : DriveFault} {completionFirst : Bool} (h : EngineOk s)
    (running : s.stage = .running) (ht : execModuleFaultReport m cause completionFirst s = .next t) : EngineOk t := by
  unfold execModuleFaultReport at ht
  split at ht
  · cases ht
  · rename_i r hr
    have op := strokeInFlight_eq_some.1 hr
    split at ht
    · rename_i hm
      have hmod : moduleOf (operationLine (.stroke r)) = m := (h.strokeModule r op).symm.trans hm
      subst hmod
      have k : SameWork (s.setOperation none) ((if completionFirst then s.assumeDriven r else s).setOperation none) := by
        split
        · exact sameWork_driven s r
        · exact SameWork.refl _
      obtain ⟨hend, hkick⟩ := h.faultedWork running op rfl k (dropped_enterFaulted _ _)
      cases ht
      refine EngineOk.settle ?_
      split
      · rename_i w hw
        exact hend w hw
      · rename_i hw
        exact hkick hw
    · cases ht

theorem EngineOk.sensePassFailed (h : EngineOk s) (running : s.stage = .running)
    (ht : execSensePassFailed s = .next t) : EngineOk t := by
  unfold execSensePassFailed at ht
  split at ht
  · rename_i k l op
    cases ht
    refine EngineOk.settle ?_
    have d := dropped_enterFaulted (s.setOperation none) (moduleOf l)
    have st := (h.statics_end running (SameWork.refl _)).drop d
    have lineWork : isLineWork (.sense k l) = true → EngineOk
        (match ((s.setOperation none).enterFaulted (moduleOf l)).engine.cancelled with
          | some w => ((s.setOperation none).enterFaulted (moduleOf l)).endCancel w
          | none => ((s.setOperation none).enterFaulted (moduleOf l)).kick) := fun work => by
      obtain ⟨hend, hkick⟩ := h.faultedWork running op work (SameWork.refl _) d
      split
      · rename_i w hw
        exact hend w hw
      · rename_i hw
        exact hkick hw
    have idleWork : k = .audit ∨ k = .return →
        ((s.setOperation none).enterFaulted (moduleOf l)).engine.current = none ∧
          ((s.setOperation none).enterFaulted (moduleOf l)).engine.cancelled = none := fun kind => by
      obtain ⟨hc, hw⟩ := h.idleWork op kind
      refine ⟨d.current_none fun c hc' => ?_, d.cancelled.trans hw⟩
      have hc' : s.engine.current = some c := hc'
      rw [hc] at hc'
      cases hc'
    cases k with
    | sweep =>
      have owned := h.owned
      unfold operationOwned at owned
      rw [op] at owned
      rw [running] at owned
      cases owned.1
    | pre => exact lineWork rfl
    | verify => exact lineWork rfl
    | cancel => exact lineWork rfl
    | audit => exact engineOk_leaveAudit st d.operation (idleWork (Or.inl rfl)).1 (idleWork (Or.inl rfl)).2
    | _ => exact engineOk_continueReturn st d.operation (idleWork (Or.inr rfl)).1 (idleWork (Or.inr rfl)).2
  · cases ht

theorem EngineOk.selfTestComplete {m : ModuleId} {passed : Bool} {reading : Int} (h : EngineOk s)
    (running : s.stage = .running) (ht : execSelfTestComplete m passed reading s = .next t) : EngineOk t := by
  unfold execSelfTestComplete at ht
  split at ht
  · rename_i hstarting
    have put : ∀ x, EngineOk (s.putModule m x) := fun x =>
      h.putModule running (fun hs => by rw [hstarting] at hs; cases hs) fun _ _ hs => by rw [hstarting] at hs; cases hs
    split at ht
    · cases ht
      refine EngineOk.settle ?_
      have told := SameWork.moduleChanged (s.putModule m ⟨.ready, some reading, none⟩) m .ready
      unfold State.returnToService
      rw [show (s.putModule m ⟨.ready, some reading, none⟩).stage = .running from running]
      dsimp only
      refine ((put _).same_work told).kickReturn (told.stage.trans running)
        (foldl_addReturn (linesOf m) _ (nodup_linesOf m)) (fun l hl => List.mem_append_left _ hl) fun l hl => ?_
      rcases List.mem_append.1 hl with hl | hl
      · exact ((put _).same_work told).returnService l hl
      · have hm := (mem_linesOf m l).1 (List.mem_filter.1 hl).1
        rw [told.lineInService, State.lineInService, State.lineModule, moduleState_putModule, if_pos hm.symm]
        rfl
    · cases ht
      refine EngineOk.settle ?_
      unfold State.failSelfTest
      have d := dropped_enterFaulted (s.putModule m ⟨.starting, some reading, none⟩) m
      rw [if_neg (by rw [stage_enterFaulted]; show s.stage ≠ _; rw [running]; simp)]
      refine (EngineOk.choosable_drop (put _) running d fun o ho hm => ?_).engineOk_kick
      have hservice := h.operating o ho
      rw [State.lineInService, State.lineModule, hm, hstarting] at hservice
      cases hservice
  · cases ht

/-- A reading takes no module out of service (R109). -/
theorem inServiceState_afterReading (s : State) (m : ModuleId) (reading : Int)
    (hs : inServiceState (s.moduleState m) = true) :
    inServiceState (afterReading (s.modules.records.get m).state reading) = true := by
  have hs : inServiceState (s.modules.records.get m).state = true := hs
  cases hst : (s.modules.records.get m).state with
  | ready => unfold afterReading; dsimp only; split <;> rfl
  | hot => unfold afterReading; dsimp only; split <;> rfl
  | _ => rw [hst] at hs; cases hs

theorem EngineOk.temperatureReading {m : ModuleId} {reading : Int} (h : EngineOk s) (running : s.stage = .running)
    (ht : execTemperatureReading m reading s = .next t) : EngineOk t := by
  unfold execTemperatureReading at ht
  dsimp only at ht
  split at ht
  · cases ht
  · have service := inServiceState_afterReading s m reading
    split at ht
    · rename_i hsame
      cases ht
      exact h.putModule running service fun _ hx _ => hsame.symm.trans hx
    · split at ht
      · rename_i hhot
        cases ht
        refine EngineOk.settle ?_
        have told := SameWork.moduleChanged (s.putModule m
          ⟨afterReading (s.modules.records.get m).state reading, some reading,
            (s.modules.records.get m).selfTest⟩) m (afterReading (s.modules.records.get m).state reading)
        have hput := (h.putModule running (x := ⟨afterReading (s.modules.records.get m).state reading, some reading,
            (s.modules.records.get m).selfTest⟩) service fun _ hx _ => by
              have hx : afterReading (s.modules.records.get m).state reading = .ready := hx
              rw [hhot] at hx
              cases hx).same_work told
        unfold State.moduleHot
        split
        · rename_i c hc
          split
          · rename_i hwait
            obtain ⟨w, -⟩ := hput.working_of_charging (told.stage.trans running) hwait.1
            exact engineOk_andChoose (packingOk_suspend w c)
          · exact hput
        · exact hput
      · cases ht
        refine EngineOk.settle ?_
        have told := SameWork.moduleChanged (s.putModule m
          ⟨afterReading (s.modules.records.get m).state reading, some reading,
            (s.modules.records.get m).selfTest⟩) m (afterReading (s.modules.records.get m).state reading)
        unfold State.moduleCooled
        split
        · rename_i hheld
          have hheld : s.engine.state = .held := told.state.symm.trans hheld
          obtain ⟨w, current⟩ := h.working_of_resting running (Or.inr hheld)
          have hput : Working (s.putModule m ⟨afterReading (s.modules.records.get m).state reading, some reading,
            (s.modules.records.get m).selfTest⟩) := ⟨w.statics.putModule service, w.opened, w.quiet, w.cancelled⟩
          exact engineOk_choose (hput.same_work told) (told.current.trans current)
        · rename_i hheld
          refine (h.putModule running service fun hs _ _ => absurd ?_ hheld).same_work told
          exact told.state.trans hs

/-! ### Zones, charger, timers -/

theorem EngineOk.releaseStale (h : EngineOk s) (running : s.stage = .running) (z : ZoneId) :
    EngineOk (s.releaseStale z) := by
  have p := SameWork.promptIf s s.engine.refresh.isNone
  have hp := h.same_work p
  have hrun := p.stage.trans running
  unfold State.releaseStale
  generalize s.promptIf s.engine.refresh.isNone = u at hp hrun
  split
  · have hmarks : EngineOk (u.setEngine { u.engine with stale := u.engine.stale.set z false }) :=
      hp.setMarks hrun rfl rfl rfl rfl rfl rfl hp.audit
    exact ((hmarks.choosable hrun).catchUp _).engineOk_kick
  · exact h

theorem EngineOk.releaseTimerExpiry {z : ZoneId} (h : EngineOk s) (running : s.stage = .running)
    (ht : execReleaseTimerExpiry z s = .next t) : EngineOk t := by
  unfold execReleaseTimerExpiry at ht
  dsimp only at ht
  split at ht
  · cases ht
    refine EngineOk.settle ?_
    have k := (SameWork.setZones s (s.zones.set z { s.zones.get z with state := .clear })).trans
      ((SameWork.setPage _ { s.page with fresh := s.page.fresh.set (zoneLine z) false }).trans
        (SameWork.touchNotice _ z .released))
    have hk := h.same_work k
    exact hk.releaseStale (k.stage.trans running) z
  · cases ht

theorem EngineOk.chargerStep (h : EngineOk s) (running : s.stage = .running) (ht : execChargerStep s = .next t) :
    EngineOk t := by
  unfold execChargerStep at ht
  split at ht
  · cases ht
    exact ((h.same_work (SameWork.setReservoir s s.reservoir.charge)).compareReady running).settle
  · cases ht

theorem EngineOk.auditIntervalExpiry (h : EngineOk s) (running : s.stage = .running)
    (ht : execAuditIntervalExpiry s = .next t) : EngineOk t := by
  unfold execAuditIntervalExpiry at ht
  split at ht
  · cases ht
  · rename_i hinterval
    have closed : s.engine.refresh = none := h.audit (by simpa [Option.isSome_iff_ne_none] using hinterval)
    have again : EngineOk s.restartAudit := h.setMarks running rfl rfl rfl rfl rfl rfl fun _ => closed
    split at ht
    · cases ht; exact again
    · split at ht
      · cases ht; exact again
      · rename_i l hl
        cases ht
        obtain ⟨-, current, cancelled⟩ := h.closed closed
        have st : Statics (s.setEngine { s.engine with auditInterval := none, auditPosition := nextLine l }) :=
          (h.statics running).of_lists rfl (fun _ h => h) rfl rfl Iff.rfl nofun
        refine engineOk_startSense st (fun _ => current) (fun c hc => ?_) cancelled ⟨running, current, cancelled⟩ ?_
        · have hc : s.engine.current = some c := hc
          rw [current] at hc
          cases hc
        · have haudit := List.find?_some hl
          simp only [State.auditable, Bool.and_eq_true, beq_iff_eq] at haudit
          show s.lineInService l = true
          rw [State.lineInService, haudit.1]
          rfl

theorem EngineOk.deadlineExpiry (h : EngineOk s) (running : s.stage = .running) (ht : execDeadlineExpiry s = .next t) :
    EngineOk t := by
  unfold execDeadlineExpiry at ht
  split at ht
  · cases ht
  · split at ht
    · dsimp only at ht
      have hexpired := h.same_work (SameWork.updRefresh s fun r => { r with deadline := none, expired := true })
      split at ht
      · rename_i state
        cases ht
        exact (hexpired.closeDeferred running state).settle
      · cases ht; exact hexpired
    · cases ht

end Sys2Proof.Machine
end

section
/-!
The refresh engine's invariant through the record load and the sweep, and so through every step (R6, R7, R14, R31, R32).
-/

namespace Sys2Proof.Machine

open Host (Outcome)

variable {s t : State}

/-! ### Before the sweep -/

theorem engineOk_of_load (h : LoadOk s) (loading : s.loading = true) : EngineOk s := by
  obtain ⟨run, sweep⟩ := not_running_of_loading loading
  obtain ⟨engine, -, -, -, quiet, -, -⟩ := h
  constructor <;> simp [engine, quiet, initialEngine, operationOwned, run, sweep]

theorem engineOk_restarted (s : State) {x : Stage} (fresh : x = .unpowered ∨ x = .loadingPowerOn) :
    EngineOk (s.restarted x) :=
  engineOk_of_load ((startOk_restarted s x fresh).load (by rcases fresh with rfl | rfl <;> rfl))
    (by rcases fresh with rfl | rfl <;> rfl)

theorem engineOk_softReset (commit : s.store.commit = none) : EngineOk s.softReset :=
  engineOk_of_load ((startOk_softReset commit).load rfl) rfl

/-! ### The sweep -/

/-- What the engine is while the sweep runs: its lists are empty, and at most a sense pass of the sweep is in
flight. -/
structure Sweeps (s : State) : Prop where
  stage : s.stage = .sweeping
  refresh : s.engine.refresh = none
  queue : s.engine.queue = []
  current : s.engine.current = none
  cancelled : s.engine.cancelled = none
  returns : s.engine.returnList = []
  audit : s.engine.auditInterval = none
  stale : ∀ z, s.engine.stale.get z = false
  generation : s.engine.generation = 0
  waiting : ∀ l, s.engine.sweepWaiting.get l = true → s.lineInService l = true
  state : s.engine.state ≠ .charging ∧ s.engine.state ≠ .deferred ∧ s.engine.state ≠ .held
  operation : ∀ o, s.modules.operation = some o → ∃ l, o = .sense .sweep l ∧ s.lineInService l = true

theorem EngineOk.sweeps (h : EngineOk s) (stage : s.stage = .sweeping) : Sweeps s := by
  have notRunning : s.stage ≠ .running := by rw [stage]; simp
  have refresh : s.engine.refresh = none := by
    by_contra hne
    exact notRunning (h.started (Option.isSome_iff_ne_none.2 hne))
  obtain ⟨queue, current, cancelled⟩ := h.closed refresh
  obtain ⟨returns, audit, stale, generation⟩ := h.before notRunning
  refine ⟨stage, refresh, queue, current, cancelled, returns, audit, stale, generation, h.waitingService stage,
    ⟨fun hs => ?_, fun hs => ?_, fun hs => ?_⟩, fun o ho => ?_⟩
  · obtain ⟨hc, -⟩ := h.charging.1 hs
    rw [current] at hc
    cases hc
  · obtain ⟨hr, -⟩ := h.deferred hs
    rw [refresh] at hr
    cases hr
  · obtain ⟨hr, -⟩ := h.held hs
    rw [refresh] at hr
    cases hr
  · have service := h.operating o ho
    have owned := h.owned
    unfold operationOwned at owned
    rw [ho] at owned
    simp only [current, cancelled, returns, stage] at owned
    rcases o with r | ⟨k, l⟩
    · simp at owned
    · cases k with
      | sweep => exact ⟨l, rfl, service⟩
      | _ => simp at owned

theorem Sweeps.engineOk (h : Sweeps s) : EngineOk s := by
  have notRunning : s.stage ≠ .running := by rw [h.stage]; simp
  exact
    { closed := fun _ => ⟨h.queue, h.current, h.cancelled⟩
      once := by rw [h.queue]; exact List.nodup_nil
      service := fun l hl => by rw [h.queue] at hl; cases hl
      current := fun c hc => by rw [h.current] at hc; cases hc
      cancelled := fun w hw => by rw [h.cancelled] at hw; cases hw
      owned := by
        unfold operationOwned
        cases ho : s.modules.operation with
        | none => trivial
        | some o =>
          obtain ⟨l, rfl, -⟩ := h.operation o ho
          exact ⟨h.stage, h.current, h.cancelled⟩
      strokeModule := fun r hr => by
        obtain ⟨l, hl, -⟩ := h.operation _ hr
        cases hl
      operating := fun o ho => by
        obtain ⟨l, rfl, service⟩ := h.operation o ho
        exact service
      started := fun hr => by rw [h.refresh] at hr; cases hr
      striking := fun hrun => absurd hrun notRunning
      sensing := fun hrun => absurd hrun notRunning
      charging := ⟨fun hs => absurd hs h.state.1, fun hc => by rw [h.current] at hc; cases hc.1⟩
      deferred := fun hs => absurd hs h.state.2.1
      held := fun hs => absurd hs h.state.2.2
      idle := fun _ => h.refresh
      audit := fun _ => h.refresh
      returns := fun _ => h.returns
      returnService := fun l hl => by rw [h.returns] at hl; cases hl
      waitingService := fun _ => h.waiting
      before := fun _ => ⟨h.returns, h.audit, h.stale, h.generation⟩ }

theorem sweeps_of_initial (stage : s.stage = .sweeping) (engine : s.engine = initialEngine)
    (quiet : s.modules.operation = none) : Sweeps s := by
  constructor <;> simp [engine, quiet, initialEngine, stage]

/-- The sweep completes: the engine is IDLE, or its first refresh opens (R7). -/
theorem Sweeps.completeSweep (h : Sweeps s) (quiet : s.modules.operation = none) : EngineOk s.completeSweep := by
  have st : Statics (s.setStage .running) := by
    refine ⟨rfl, fun _ => h.queue, ?_, fun l hl => ?_, fun l hl => ?_, fun _ => h.refresh⟩
    · rw [State.setStage_engine, h.queue]
      exact List.nodup_nil
    · rw [State.setStage_engine, h.queue] at hl
      cases hl
    · rw [State.setStage_engine, h.returns] at hl
      cases hl
  have both : ∀ (content : State → Line → Content) (ls : List Line) (u : State),
      SameWork u (ls.foldl (fun u l => u.setBoth l (content u l)) u) := fun content ls u =>
    SameWork.foldl _ (fun u l => (SameWork.setPage u _).trans (SameWork.setPage _ _)) ls u
  unfold State.completeSweep
  dsimp only
  split
  · have k := both (fun u l => u.sensed l) s.sweptLines (s.setStage .running)
    exact engineOk_goIdle (st.same_work k) (by rw [k.modules]; exact quiet) (k.current.trans h.current)
      (k.cancelled.trans h.cancelled) (k.refresh_eq_none.2 h.refresh)
  · have k := both (fun _ _ => blankContent) s.sweptLines (s.setStage .running)
    refine Choosable.engineOk_kick ?_
    unfold State.openRefresh
    refine Choosable.appendLines _ _ ⟨?_, Or.inr ⟨rfl, ?_, k.cancelled.trans h.cancelled, k.current.trans h.current,
      fun _ => k.returnList.trans h.returns⟩⟩ rfl
    · have sk := st.same_work k
      exact ⟨sk.running, nofun, sk.once, sk.service, sk.returnService, nofun⟩
    · exact (congrArg ModuleInterface.operation k.modules).trans quiet

theorem Sweeps.continueSweep (h : Sweeps s) : EngineOk s.continueSweep := by
  unfold State.continueSweep
  split
  · exact h.engineOk
  · rename_i hquiet
    have quiet : s.modules.operation = none := by simpa [quiet_iff] using hquiet
    split
    · rename_i l rest hmembers
      have hwaits : s.engine.sweepWaiting.get l = true :=
        (Table.mem_members _ l).1 (by rw [hmembers]; exact List.mem_cons_self)
      refine Sweeps.engineOk ⟨h.stage, h.refresh, h.queue, h.current, h.cancelled, h.returns, h.audit, h.stale,
        h.generation, fun k hk => ?_, ⟨nofun, nofun, nofun⟩, fun o ho => ?_⟩
      · have hk : (s.engine.sweepWaiting.set l false).get k = true := hk
        rw [Table.get_set] at hk
        split at hk
        · cases hk
        · exact h.waiting k hk
      · cases ho
        exact ⟨l, rfl, h.waiting l hwaits⟩
    · split
      · exact h.completeSweep quiet
      · exact h.engineOk

/-- A module goes FAULTED during the sweep, with no sense pass in flight on it (R7). -/
theorem Sweeps.fault (h : Sweeps s) {m : ModuleId} {u : State} (d : Dropped m s u) (marks : u.engine.stale = s.engine.stale)
    (generation : u.engine.generation = s.engine.generation) (waiting : u.engine.sweepWaiting = s.engine.sweepWaiting)
    (free : ∀ o, s.modules.operation = some o → moduleOf (operationLine o) ≠ m) : Sweeps (u.sweepFaulted m) := by
  have k := SameWork.blankLines (u.setEngine { u.engine with
    sweepWaiting := Table.tab fun l => u.engine.sweepWaiting.get l && moduleOf l != m }) (linesOf m)
  have hsweep : ∀ v, SameWork (u.setEngine { u.engine with
      sweepWaiting := Table.tab fun l => u.engine.sweepWaiting.get l && moduleOf l != m }) v → Sweeps v := by
    intro v k
    obtain ⟨x, hx, he⟩ := k.engine
    have refresh : u.engine.refresh = none := by
      rw [← Option.not_isSome_iff_eq_none, d.opened, h.refresh]
      simp
    refine ⟨k.stage.trans (d.stage.trans h.stage), k.refresh_eq_none.2 refresh, k.queue.trans ?_, k.current.trans ?_,
      k.cancelled.trans (d.cancelled.trans h.cancelled), k.returnList.trans ?_,
      k.auditInterval.trans (d.audit.trans h.audit), fun z => ?_, ?_, fun l hl => ?_, ?_, fun o ho => ?_⟩
    · show u.engine.queue = []
      rw [d.queue, h.queue]
      rfl
    · show u.engine.current = none
      rw [d.current, h.current]
      rfl
    · show u.engine.returnList = []
      rw [d.returns, h.returns]
      rfl
    · rw [he]
      show u.engine.stale.get z = false
      rw [marks]
      exact h.stale z
    · rw [he]
      exact generation.trans h.generation
    · rw [he] at hl
      have hl : (Table.tab fun l => u.engine.sweepWaiting.get l && moduleOf l != m : LineSet).get l = true := hl
      rw [Table.get_tab, Bool.and_eq_true, bne_iff_ne, waiting] at hl
      rw [k.lineInService]
      show u.lineInService l = true
      rw [d.service l hl.2]
      exact h.waiting l hl.1
    · rw [k.state]
      show u.engine.state ≠ _ ∧ u.engine.state ≠ _ ∧ u.engine.state ≠ _
      rw [d.state]
      exact h.state
    · rw [k.modules] at ho
      have ho : s.modules.operation = some o := d.operation.symm.trans ho
      obtain ⟨l, rfl, service⟩ := h.operation o ho
      refine ⟨l, rfl, ?_⟩
      rw [k.lineInService]
      show u.lineInService l = true
      rw [d.service l (free _ ho)]
      exact service
  exact hsweep _ k

/-- The engine of a state that a module has left, but for its lists. -/
theorem LinesLeave.marks {m : ModuleId} {u : State} (h : LinesLeave s m u) : u.engine.stale = s.engine.stale ∧
    u.engine.generation = s.engine.generation ∧ u.engine.sweepWaiting = s.engine.sweepWaiting := by
  have engine := h.engine
  exact ⟨by rw [engine], by rw [engine], by rw [engine]⟩

theorem Sweeps.enterFaulted (h : Sweeps s) {m : ModuleId}
    (free : ∀ o, s.modules.operation = some o → moduleOf (operationLine o) ≠ m) :
    Sweeps ((s.enterFaulted m).sweepFaulted m) := by
  obtain ⟨stale, generation, waiting⟩ := (linesLeave_enterFaulted s m).marks
  exact h.fault (dropped_enterFaulted s m) stale generation waiting free

theorem Sweeps.putModule (h : Sweeps s) {m : ModuleId} {x : ModuleRecord}
    (service : inServiceState (s.moduleState m) = true → inServiceState x.state = true) : Sweeps (s.putModule m x) :=
  ⟨h.stage, h.refresh, h.queue, h.current, h.cancelled, h.returns, h.audit, h.stale, h.generation,
   fun l hl => lineInService_putModule service l (h.waiting l hl), h.state, fun o ho => by
    obtain ⟨l, hl, hs⟩ := h.operation o ho
    exact ⟨l, hl, lineInService_putModule service l hs⟩⟩

theorem Sweeps.setOperation_none (h : Sweeps s) : Sweeps (s.setOperation none) :=
  ⟨h.stage, h.refresh, h.queue, h.current, h.cancelled, h.returns, h.audit, h.stale, h.generation, h.waiting, h.state,
   nofun⟩

theorem EngineOk.selfTest_sweeping {m : ModuleId} {passed : Bool} {reading : Int} (h : Sweeps s)
    (ht : execSelfTestComplete m passed reading s = .next t) : EngineOk t := by
  unfold execSelfTestComplete at ht
  split at ht
  · rename_i hstarting
    have put : ∀ x, Sweeps (s.putModule m x) := fun x =>
      h.putModule fun hs => by rw [hstarting] at hs; cases hs
    split at ht
    · cases ht
      refine EngineOk.settle ?_
      unfold State.returnToService
      rw [show (s.putModule m ⟨.ready, some reading, none⟩).stage = .sweeping from h.stage]
      have hput := put ⟨.ready, some reading, none⟩
      refine Sweeps.continueSweep (s := (s.putModule m ⟨.ready, some reading, none⟩).awaitSweep m)
        ⟨hput.stage, hput.refresh, hput.queue, hput.current, hput.cancelled, hput.returns, hput.audit, hput.stale,
          hput.generation, fun l hl => ?_, hput.state, hput.operation⟩
      have hl : (Table.tab fun l => s.engine.sweepWaiting.get l || moduleOf l == m : LineSet).get l = true := hl
      rw [Table.get_tab, Bool.or_eq_true, beq_iff_eq] at hl
      rcases hl with hl | hl
      · exact hput.waiting l hl
      · show (s.putModule m ⟨.ready, some reading, none⟩).lineInService l = true
        rw [State.lineInService, State.lineModule, moduleState_putModule, if_pos hl.symm]
        rfl
    · cases ht
      refine EngineOk.settle ?_
      unfold State.failSelfTest
      dsimp only
      rw [if_pos (by rw [stage_enterFaulted]; exact h.stage)]
      refine ((put _).enterFaulted fun o ho hm => ?_).continueSweep
      obtain ⟨l, rfl, service⟩ := h.operation o ho
      have hm : moduleOf l = m := hm
      rw [State.lineInService, State.lineModule, hm, hstarting] at service
      cases service
  · cases ht

theorem EngineOk.temperature_sweeping {m : ModuleId} {reading : Int} (h : Sweeps s)
    (ht : execTemperatureReading m reading s = .next t) : EngineOk t := by
  unfold execTemperatureReading at ht
  dsimp only at ht
  split at ht
  · cases ht
  · have hput := h.putModule (m := m) (x := ⟨afterReading (s.modules.records.get m).state reading, some reading,
        (s.modules.records.get m).selfTest⟩) (inServiceState_afterReading s m reading)
    have told := SameWork.moduleChanged (s.putModule m
      ⟨afterReading (s.modules.records.get m).state reading, some reading,
        (s.modules.records.get m).selfTest⟩) m (afterReading (s.modules.records.get m).state reading)
    have hot : ∀ u : State, u.engine.current = none → u.moduleHot m = u := fun u hu => by simp [State.moduleHot, hu]
    have cooled : ∀ u : State, u.engine.state ≠ .held → u.moduleCooled = u := fun u hu => by
      simp [State.moduleCooled, hu]
    split at ht
    · cases ht; exact hput.engineOk
    · rw [hot _ (told.current.trans h.current), cooled _ (by rw [told.state]; exact h.state.2.2), ite_self] at ht
      cases ht
      exact (hput.engineOk.same_work told).settle

/-! ### The end of the load -/

/-- Modules that are tested again while a record is loaded leave the engine at its initial values. -/
theorem restartModules_engine (readings : Table Int 8) (mask : Table Bool 8) (engine : s.engine = initialEngine) :
    (s.restartModules mask readings).engine = initialEngine ∧
      (s.restartModules mask readings).modules.operation = s.modules.operation := by
  unfold State.restartModules
  generalize mask.members = ms
  induction ms generalizing s with
  | nil => exact ⟨engine, rfl⟩
  | cons m ms ih =>
    have leave := linesLeave_enterStarting s m (readings.get m)
    have hengine : (s.enterStarting m (readings.get m)).engine = initialEngine := by
      rw [leave.engine, leave.closed (by rw [engine]; rfl), engine]
      rfl
    obtain ⟨h1, h2⟩ := ih hengine
    exact ⟨h1, h2.trans (dropped_enterStarting s m (readings.get m)).operation⟩

theorem engineOk_startSweep (engine : s.engine = initialEngine) (quiet : s.modules.operation = none) :
    EngineOk s.startSweep := by
  have k := (SameWork.setPage (s.setStage .sweeping) { s.page with fresh := Table.fill false }).trans
    (SameWork.blankLines (s.setStage .sweeping).clearAllFresh (allLines.filter fun l =>
      (s.setStage .sweeping).clearAllFresh.lineModule l == .absent ||
        (s.setStage .sweeping).clearAllFresh.lineModule l == .faulted))
  have hsweeps : Sweeps (s.setStage .sweeping) := sweeps_of_initial rfl engine quiet
  exact ((hsweeps.engineOk.same_work k).sweeps k.stage).continueSweep

theorem sameWork_loadSettings (s : State) : SameWork s s.loadSettings := by
  unfold State.loadSettings
  split
  · exact (SameWork.setSettings s _).trans (SameWork.setStore _ _)
  · exact (SameWork.setSettings s _).trans (SameWork.setStore _ _)

theorem sameWork_loadHealth (s : State) : SameWork s s.loadHealth := by
  unfold State.loadHealth
  split
  · exact SameWork.setHealth s _
  · exact SameWork.setHealth s _

/-- The end of the load: the sweep runs, or has completed at once. -/
theorem engineOk_recordLoadComplete {answers : Table Bool 8} {readings : Table Int 8} (load : LoadOk s)
    (ht : exec (.recordLoadComplete answers readings) s = .next t) : EngineOk t := by
  have settings : s.loadSettings.engine = s.engine := by
    unfold State.loadSettings
    split <;> rfl
  have health : ∀ u : State, u.loadHealth.engine = u.engine := fun u => by
    unfold State.loadHealth
    split <;> rfl
  have ht : execRecordLoadComplete answers readings s = .next t := ht
  unfold execRecordLoadComplete at ht
  split at ht
  · cases ht
    refine (engineOk_startSweep ?_ rfl).settle
    show s.loadSettings.loadHealth.engine = _
    rw [health, settings, load.engine]
  · rename_i mask _
    cases ht
    obtain ⟨h1, h2⟩ := restartModules_engine readings mask (settings.trans load.engine)
    refine (engineOk_startSweep h1 (h2.trans ?_)).settle
    rw [(sameWork_loadSettings s).modules]
    exact load.quiet
  · cases ht
  · cases ht
  · cases ht

/-- A sense pass of the sweep is not in flight after it. -/
theorem sweepSense_ne {states : Content} (h : EngineOk s) (running : s.stage = .running) :
    exec (.sweepSenseComplete states) s ≠ .next t := by
  intro ht
  have ht : execSweepSenseComplete states s = .next t := ht
  unfold execSweepSenseComplete at ht
  split at ht
  · cases ht
  · rename_i l hl
    have owned := h.owned
    unfold operationOwned at owned
    rw [sensing_eq_some.1 hl] at owned
    rw [running] at owned
    cases owned.1

/-! ### Every command -/

/-- While the sweep runs the requests that are not turned away are IDENTIFY and STATUS (R163). -/
theorem take_sweeping {l : Link} {k : RequestKind} {serve : Service} (stage : s.stage = .sweeping)
    (ht : s.take l k serve = .next t) : SameWork s t ∨
      ((k = .identify ∨ k = .status) ∧ ∃ f, serve (s.popFrame l) f = .ok t) := by
  obtain ⟨f, -, -, ⟨why, rfl⟩ | ⟨htake, hu⟩⟩ := take_cases ht
  · exact Or.inl (SameWork.turnedAway s l f why)
  · refine Or.inr ⟨?_, f, hu⟩
    have hscreen := htake.2.2
    unfold State.screen at hscreen
    by_contra hk
    rw [stage] at hscreen
    simp only [not_or] at hk
    have hother : ((Stage.sweeping != Stage.running) && !(k == .identify || k == .status)) = true := by
      simp [hk.1, hk.2]
    rw [hother, if_pos rfl] at hscreen
    split at hscreen
    · cases hscreen
    · split at hscreen <;> cases hscreen

theorem EngineOk.request_sweeping {c : Instr} {lk : Link × RequestKind} (h : EngineOk s) (stage : s.stage = .sweeping)
    (hreq : requestOf c = some lk) (ht : exec c s = .next t) : EngineOk t := by
  obtain ⟨serve, hexec, -⟩ := exec_request_keepsEngine hreq
  rcases take_sweeping stage ((hexec s).symm.trans ht) with k | ⟨hk, -⟩
  · exact h.same_work k
  · have hc : c = .identify lk.1 ∨ c = .status lk.1 := by
      cases c <;> simp only [requestOf, Option.some.injEq, reduceCtorEq] at hreq <;> subst hreq <;> simp_all
    rcases hc with rfl | rfl
    · rcases take_sweeping stage (serve := serveIdentify lk.1) ht with k | ⟨-, f, hu⟩
      · exact h.same_work k
      · cases hu
        exact h.same_work ((SameWork.popFrame s _).trans (SameWork.sendReply _ _ _ _))
    · rcases take_sweeping stage (serve := serveStatus lk.1) ht with k | ⟨-, f, hu⟩
      · exact h.same_work k
      · cases hu
        exact h.same_work ((SameWork.popFrame s _).trans ((SameWork.setPort _ _ _).trans
          (SameWork.sendReply _ _ _ _)))

theorem Sweeps.releaseStale_eq {z : ZoneId} (h : Sweeps s) : s.releaseStale z = s := by
  unfold State.releaseStale
  rw [if_neg (by rw [h.stale z]; exact Bool.false_ne_true)]

theorem EngineOk.release_sweeping {z : ZoneId} (h : EngineOk s) (stage : s.stage = .sweeping)
    (ht : execReleaseTimerExpiry z s = .next t) : EngineOk t := by
  unfold execReleaseTimerExpiry at ht
  dsimp only at ht
  split at ht
  · have k : SameWork s (((s.putZone z { s.zones.get z with state := .clear }).clearFresh (zoneLine z)).touchNotice z
        .released) :=
      (SameWork.setZones s (s.zones.set z { s.zones.get z with state := .clear })).trans
        ((SameWork.setPage _ { s.page with fresh := s.page.fresh.set (zoneLine z) false }).trans
          (SameWork.touchNotice _ z .released))
    have hk := h.same_work k
    rw [(hk.sweeps (k.stage.trans stage)).releaseStale_eq] at ht
    cases ht
    exact hk.settle
  · cases ht

theorem EngineOk.charger_sweeping (h : EngineOk s) (stage : s.stage = .sweeping) (ht : execChargerStep s = .next t) :
    EngineOk t := by
  unfold execChargerStep at ht
  split at ht
  · cases ht
    have hcur : (s.setReservoir s.reservoir.charge).engine.current = none := (h.sweeps stage).current
    have hsame : (s.setReservoir s.reservoir.charge).compareReady = s.setReservoir s.reservoir.charge := by
      unfold State.compareReady
      rw [hcur]
    rw [hsame]
    exact (h.same_work (SameWork.setReservoir s _)).settle
  · cases ht

theorem EngineOk.sweepSenseComplete {states : Content} (h : EngineOk s) (stage : s.stage = .sweeping)
    (ht : execSweepSenseComplete states s = .next t) : EngineOk t := by
  unfold execSweepSenseComplete at ht
  split at ht
  · cases ht
  · rename_i l _
    cases ht
    refine EngineOk.settle (Sweeps.continueSweep ?_)
    exact ((h.sweeps stage).setOperation_none.engineOk.same_work (sameWork_endSense s l states)).sweeps stage

theorem EngineOk.sensePassFailed_sweeping (h : EngineOk s) (stage : s.stage = .sweeping)
    (ht : execSensePassFailed s = .next t) : EngineOk t := by
  unfold execSensePassFailed at ht
  split at ht
  · rename_i k l op
    obtain ⟨l', hl, -⟩ := (h.sweeps stage).operation _ op
    cases hl
    cases ht
    exact (((h.sweeps stage).setOperation_none.enterFaulted nofun).continueSweep).settle
  · cases ht

/-- Power, the soft reset and the events that leave the engine's work as it is: they keep the invariant in every
stage. Of the other commands the invariant after the load, and after the sweep, is what is left to show. -/
theorem exec_keeps_engineOk {c : Instr} (h : EngineOk s) (start : StartOk s) (ht : exec c s = .next t) :
    EngineOk t := by
  cases hl : s.loading with
  | true =>
    have load := start.load hl
    rcases exec_of_loading load hl start.unread ht with ⟨x, fresh, rfl⟩ | ⟨answers, readings, rfl⟩ | k
    · exact engineOk_restarted s fresh
    · exact engineOk_recordLoadComplete load ht
    · exact engineOk_of_load (load.kept k) (by rw [loading_of_stage k.stage, hl])
  | false =>
    have hstage : s.stage = .sweeping ∨ s.stage = .running := by
      unfold State.loading at hl
      cases hs : s.stage <;> simp [hs] at hl ⊢
    have notLoading : ∀ answers readings, exec (.recordLoadComplete answers readings) s ≠ .next t := by
      intro answers readings hx
      rcases hstage with hs | hs <;> simp [exec, execRecordLoadComplete, hs] at hx
    have sweepOnly : ∀ k l, s.stage = .sweeping → k ≠ .sweep → s.sensing k ≠ some l := fun k l hs hk hx => by
      obtain ⟨l', hl', -⟩ := (h.sweeps hs).operation _ (sensing_eq_some.1 hx)
      cases hl'
      exact hk rfl
    have noStroke : s.stage = .sweeping → s.strokeInFlight = none := fun hs => by
      by_contra hne
      obtain ⟨r, hr⟩ := Option.ne_none_iff_exists'.1 hne
      obtain ⟨l', hl', -⟩ := (h.sweeps hs).operation _ (strokeInFlight_eq_some.1 hr)
      cases hl'
    have noSense : ∀ k, s.stage = .sweeping → k ≠ .sweep → s.sensing k = none := fun k hs hk => by
      by_contra hne
      obtain ⟨l, hl⟩ := Option.ne_none_iff_exists'.1 hne
      exact sweepOnly k l hs hk hl
    cases hreq : requestOf c with
    | some lk =>
      rcases hstage with hs | hs
      · exact h.request_sweeping hs hreq ht
      · obtain ⟨serve, hexec, hserve⟩ := exec_request_keepsEngine hreq
        exact h.take hs hserve ((hexec s).symm.trans ht)
    | none =>
      cases c with
      | powerOn => cases ht; exact engineOk_restarted s (Or.inr rfl)
      | powerLost =>
        have ht : execPowerLost s = .next t := ht
        unfold execPowerLost at ht
        split at ht
        · cases ht; exact engineOk_restarted s (Or.inl rfl)
        · cases ht
      | recordLoadComplete answers readings => exact absurd ht (notLoading _ _)
      | softResetTakesEffect =>
        obtain ⟨w, -, due, rfl⟩ := softReset_of_exec ht
        simp only [State.resetDue, Bool.and_eq_true, Option.isNone_iff_eq_none] at due
        exact engineOk_softReset due.1.2
      | byteReceived l b => exact h.same_work (sameWork_of_link_event.1 b ht)
      | gapTimerExpiry l => exact h.same_work (sameWork_of_link_event.2.1 ht)
      | frameSent l => exact h.same_work (sameWork_of_link_event.2.2.1 ht)
      | unknownKindRequest l => exact h.same_work (sameWork_of_link_event.2.2.2 ht)
      | presenceLost => exact h.same_work (sameWork_of_presence.1 ht)
      | presenceGained => exact h.same_work (sameWork_of_presence.2 ht)
      | recordWriteComplete => exact h.same_work (sameWork_of_recordWriteComplete ht)
      | zoneReadingPresent z => exact h.same_work (sameWork_of_readZone ht)
      | zoneReadingAbsent z => exact h.same_work (sameWork_of_readZone ht)
      | armingTimerExpiry z => exact h.same_work (sameWork_of_armingTimerExpiry ht)
      | chargerIdleExpiry => exact h.same_work (sameWork_of_chargerIdleExpiry ht)
      | releaseTimerExpiry z =>
        rcases hstage with hs | hs
        · exact h.release_sweeping hs ht
        · exact h.releaseTimerExpiry hs ht
      | selfTestComplete m passed reading =>
        rcases hstage with hs | hs
        · exact EngineOk.selfTest_sweeping (h.sweeps hs) ht
        · exact h.selfTestComplete hs ht
      | temperatureReading m reading =>
        rcases hstage with hs | hs
        · exact EngineOk.temperature_sweeping (h.sweeps hs) ht
        · exact h.temperatureReading hs ht
      | moduleFaultReport m cause first =>
        rcases hstage with hs | hs
        · simp [exec, execModuleFaultReport, noStroke hs] at ht
        · exact h.moduleFaultReport (cause := cause) hs ht
      | sensePassFailed =>
        rcases hstage with hs | hs
        · exact h.sensePassFailed_sweeping hs ht
        · exact h.sensePassFailed hs ht
      | sweepSenseComplete states =>
        rcases hstage with hs | hs
        · exact h.sweepSenseComplete hs ht
        · exact absurd ht (sweepSense_ne h hs)
      | preSenseComplete states =>
        rcases hstage with hs | hs
        · simp [exec, execPreSenseComplete, noSense .pre hs (by simp)] at ht
        · exact h.preSenseComplete hs ht
      | verifySenseComplete result =>
        rcases hstage with hs | hs
        · simp [exec, execVerifySenseComplete, noSense .verify hs (by simp)] at ht
        · exact h.verifySenseComplete hs ht
      | cancelSenseComplete states =>
        rcases hstage with hs | hs
        · simp [exec, execCancelSenseComplete, noSense .cancel hs (by simp)] at ht
        · exact h.cancelSenseComplete hs ht
      | auditSenseComplete states =>
        rcases hstage with hs | hs
        · simp [exec, execAuditSenseComplete, noSense .audit hs (by simp)] at ht
        · exact h.auditSenseComplete hs ht
      | returnSenseComplete states =>
        rcases hstage with hs | hs
        · simp [exec, execReturnSenseComplete, noSense .return hs (by simp)] at ht
        · exact h.returnSenseComplete hs ht
      | strokeComplete =>
        rcases hstage with hs | hs
        · simp [exec, execStrokeComplete, noStroke hs] at ht
        · exact h.strokeComplete hs ht
      | chargerStep =>
        rcases hstage with hs | hs
        · exact h.charger_sweeping hs ht
        · exact h.chargerStep hs ht
      | auditIntervalExpiry =>
        rcases hstage with hs | hs
        · simp [exec, execAuditIntervalExpiry, (h.sweeps hs).audit] at ht
        · exact h.auditIntervalExpiry hs ht
      | deadlineExpiry =>
        rcases hstage with hs | hs
        · simp [exec, execDeadlineExpiry, (h.sweeps hs).refresh] at ht
        · exact h.deadlineExpiry hs ht
      | _ => cases hreq

theorem EngineOk.setPending (h : EngineOk s) (x : List Instr) : EngineOk (s.setPending x) :=
  h.same_work (SameWork.setPending s x)

/-- Settles O59: before the sweep the engine holds its initial values; the sweep keeps its lists empty; afterwards every
command leads from one phase of the engine to another. -/
theorem stepsKeepTheRefreshEngine : Obligations.StepsKeepTheRefreshEngine := by
  rintro s t ⟨h, start⟩ hstep
  unfold step at hstep
  split at hstep
  · cases hstep
    exact h.answerPrompt
  · exact exec_keeps_engineOk (h.setPending _) (start.setPending _) hstep

end Sys2Proof.Machine
end

section
/-!
SUPPORT. What follows an event, in the terms of Safety.lean: a packing point, the sweep, and the end of an event on a
page without a pane of LOCAL.
-/

namespace Sys2Proof.Machine

variable {s : State}

/-! ### Timers -/

/-- A timer started with a setting, as the statements write it. -/
theorem timerOf_eq (ms : Nat) : timerOf ms = if ms = 0 then none else some ms := by
  unfold timerOf
  by_cases h : ms = 0
  · simp [h]
  · simp [h, Nat.pos_of_ne_zero h]

/-! ### The end of an event without a pane of LOCAL -/

/-- With no line to write a recompute changes nothing. -/
theorem recompute_of_no_local (h : s.ownedLines .localWriter = []) : s.recompute = s := by
  simp [State.recompute, h]

/-- With no line to write an answer takes the prompt back and changes nothing else. -/
theorem answerPrompt_of_no_local (h : s.ownedLines .localWriter = []) :
    s.answerPrompt = s.setWriter { s.writer with prompt := false } := by
  have hs : (s.setWriter { s.writer with prompt := false }).ownedLines .localWriter = [] := h
  unfold State.answerPrompt
  dsimp only
  rw [recompute_of_no_local hs, ite_self]
  split
  · rfl
  · rename_i hp
    rw [← Bool.eq_false_iff.2 hp]
    rfl

/-- With no line to write the end of an event takes its prompt back and changes nothing else. -/
theorem settle_of_no_local (h : s.ownedLines .localWriter = []) :
    s.settle = s.setWriter { s.writer with prompt := false } := by
  cases hp : s.writer.prompt with
  | false =>
    rw [settle_of_no_prompt hp, ← hp]
    rfl
  | true =>
    have answers : State.answerPrompts Config.recomputeLimit s = s.setWriter { s.writer with prompt := false } := by
      rw [show Config.recomputeLimit = 4095 + 1 from rfl, State.answerPrompts, if_pos hp, answerPrompt_of_no_local h]
      exact answerPrompts_of_no_prompt _ rfl
    unfold State.settle
    rw [answers]
    rfl

/-! ### Packing points -/

/-- A stroke was fired in the round. -/
theorem fired_iff (r : Round) : r.fired = true ↔ ∃ p, (r.pins.get p).firedInRound = true := by
  unfold Round.fired
  rw [List.any_eq_true]
  constructor
  · rintro ⟨x, hx, fired⟩
    obtain ⟨p, rfl⟩ := r.pins.mem_cells hx
    exact ⟨p, fired⟩
  · rintro ⟨p, fired⟩
    exact ⟨_, r.pins.get_mem p, fired⟩

theorem not_fired_iff (r : Round) : r.fired = false ↔ ∀ p, (r.pins.get p).firedInRound = false := by
  rw [← Bool.not_eq_true, fired_iff]
  simp

/-- The end of a RAISE phase: the verify sense, or the finish and the choice. -/
theorem raiseEnds_endRaise (s : State) (c : Current) : RaiseEnds (.next (State.andChoose (s.endRaise c)).settle) s c where
  verifies verify fired := by
    have hf := (fired_iff c.round).2 fired
    have h : s.endRaise c = ((s.setEngine { s.engine with current := some c }).startSense .verify c.line, false) := by
      simp [State.endRaise, verify, hf]
    rw [h]
    rfl
  finishes why early := by
    have sense : (s.settings.verify && c.round.fired) = false := by
      rcases why with h | h
      · rw [h, Bool.false_and]
      · rw [(not_fired_iff c.round).2 h, Bool.and_false]
    have search : (s.settings.verify && decide (s.settings.retryMax ≤ c.round.number)) = false := by
      rcases early with h | h
      · rw [h, Bool.false_and]
      · rw [decide_eq_false (Nat.not_le.2 h), Bool.and_false]
    simp [State.endRaise, sense, search, State.finishLine, State.andChoose]
  searches verify unfired last := by
    simp [State.endRaise, verify, (not_fired_iff c.round).2 unfired, last, State.finishLine, State.andChoose]

theorem hasCandidate_eq_false {c : Current} (h : ∀ p, ¬ s.mayDrive c p) : s.hasCandidate c = false := by
  rw [← Bool.not_eq_true, hasCandidate_iff]
  exact fun ⟨p, hp⟩ => h p hp

/-- A line on a HOT module is suspended at its packing point. -/
theorem packingPoint_of_hot {c : Current} (hot : s.lineModule c.line = .hot) :
    s.packingPoint c = (s.suspend c, true) := by
  rw [State.packingPoint, if_pos hot]

/-- A suspension: the line is no longer current, and no longer fresh if a stroke has been fired on it. -/
theorem suspend_eq (s : State) (c : Current) : ∃ fresh : LineSet,
    (∀ l, fresh.get l = true ↔ s.page.fresh.get l = true ∧ ¬ (l = c.line ∧ s.page.struck.get l = true)) ∧
    s.suspend c = (s.setEngine { s.engine with current := none }).setPage { s.page with fresh := fresh } := by
  by_cases hs : s.page.struck.get c.line = true
  · refine ⟨s.page.fresh.set c.line false, fun l => ?_, ?_⟩
    · rw [Table.get_set]
      split
      · rename_i hl
        subst hl
        simp [hs]
      · rename_i hl
        simp [Ne.symm hl]
    · unfold State.suspend
      exact if_pos hs
  · refine ⟨s.page.fresh, fun l => ⟨fun h => ⟨h, fun hl => hs (hl.1 ▸ hl.2)⟩, fun h => h.1⟩, ?_⟩
    unfold State.suspend
    exact if_neg hs

/-- A packing point with all that follows it at once (R16, R84, R110). -/
theorem packsFrom_packingPoint (s : State) (c : Current) :
    PacksFrom (.next (State.andChoose (s.packingPoint c)).settle) s c where
  hot hot := by
    obtain ⟨fresh, hfresh, hs⟩ := suspend_eq s c
    refine ⟨fresh, hfresh, ?_⟩
    rw [packingPoint_of_hot hot, hs]
    rfl
  packs ready some := by
    rw [packingPoint_of_mayDrive s c ready some]
    exact packsWith_packOrWait s c
  raiseEnds ready phase none := by
    rw [State.packingPoint, if_neg ready, hasCandidate_eq_false none, phase]
    exact raiseEnds_endRaise s c
  raisePacks ready phase none some := by
    have h : s.packingPoint c = (s.packOrWait c.raising, false) := by
      rw [State.packingPoint, if_neg ready, hasCandidate_eq_false none, phase]
      exact if_pos ((hasCandidate_iff s c.raising).2 some)
    rw [h]
    exact packsWith_packOrWait s c.raising
  bothEnd ready phase none none' := by
    have h : s.packingPoint c = s.endRaise c.raising := by
      rw [State.packingPoint, if_neg ready, hasCandidate_eq_false none, phase]
      exact if_neg (Bool.eq_false_iff.1 (hasCandidate_eq_false (c := c.raising) none'))
    rw [h]
    exact raiseEnds_endRaise s c.raising

end Sys2Proof.Machine
end

section
/-!
SUPPORT. How a refresh opens, how the start-up sweep goes on and completes, in the terms of Safety.lean.
-/

namespace Sys2Proof.Machine

variable {s : State}

/-! ### The opening of a refresh (R10, R13, R98) -/

/-- A refresh that opens for lines named once each: the engine and the reservoir after it. -/
theorem openRefresh_eq (s : State) (who : Requesters) {ls : List Line} (once : ls.Nodup) : ∃ unavailable : LineSet,
    (∀ l, unavailable.get l = true ↔ l ∈ ls ∧ s.lineInService l = false) ∧
    s.openRefresh who ls = (s.setEngine
      { s.engine with
        generation := s.engine.generation + 1
        queue := s.engine.queue ++ ls.filter fun l => s.lineInService l && !s.engine.queue.contains l
        refresh := some ⟨who, none, false, 0, 0, 0, Table.fill false, unavailable⟩
        auditInterval := none }).setReservoir
      ⟨if s.reservoir.charger = .off then 0 else s.reservoir.q,
        if s.reservoir.charger = .off then .charging else s.reservoir.charger, none⟩ := by
  obtain ⟨u, hu, he⟩ := appendLines_eq ls
    ((s.setEngine { s.engine with
      generation := s.engine.generation + 1
      refresh := some (openRecord who)
      auditInterval := none }).setReservoir s.reservoir.refreshOpens) once
  refine ⟨u (Table.fill false), fun l => ?_, he⟩
  rw [hu, Table.get_fill]
  show (if l ∈ ls then !s.lineInService l else false) = true ↔ _
  by_cases h : l ∈ ls <;> simp [h]

/-- A refresh that opens with an empty queue for lines in service: they are queued, and none is unavailable. -/
theorem openRefresh_served (who : Requesters) {ls : List Line} (once : ls.Nodup) (queue : s.engine.queue = [])
    (served : ∀ l ∈ ls, s.lineInService l = true) : s.openRefresh who ls = (s.setEngine
      { s.engine with
        generation := s.engine.generation + 1
        queue := ls
        refresh := some ⟨who, none, false, 0, 0, 0, Table.fill false, Table.fill false⟩
        auditInterval := none }).setReservoir
      ⟨if s.reservoir.charger = .off then 0 else s.reservoir.q,
        if s.reservoir.charger = .off then .charging else s.reservoir.charger, none⟩ := by
  obtain ⟨unavailable, hu, ho⟩ := openRefresh_eq s who once
  have none : unavailable = Table.fill false := Table.ext_get fun l => by
    rw [Table.get_fill, ← Bool.not_eq_true, hu]
    rintro ⟨hl, out⟩
    rw [served l hl] at out
    cases out
  have all : ls.filter (fun l => s.lineInService l && !s.engine.queue.contains l) = ls :=
    List.filter_eq_self.2 fun l hl => by rw [served l hl, queue]; rfl
  rw [ho, none, all, queue, List.nil_append]

/-! ### The return to IDLE without a line that waits (R30, R117) -/

theorem startReturn_of_empty (h : s.engine.returnList = []) : s.startReturn = s := by
  unfold State.startReturn
  rw [h]

theorem goIdle_of_empty (h : s.engine.returnList = []) : s.goIdle = s.setEngine
    { s.engine with
      state := .idle
      auditInterval := if s.settings.auditMs = 0 then none else some s.settings.auditMs } := by
  rw [← timerOf_eq]
  exact startReturn_of_empty h

/-! ### The completion of the sweep (R7) -/

/-- Staging and target of lines named once each set by their sensed content. -/
theorem foldl_setBoth (f : Image → Line → Content) (ls : List Line) : ∀ s : State, ∃ staging target : Image,
    (∀ l, staging.get l = if l ∈ ls then f s.page.sensed l else s.staging l) ∧
    (∀ l, target.get l = if l ∈ ls then f s.page.sensed l else s.target l) ∧
    ls.foldl (fun s l => s.setBoth l (f s.page.sensed l)) s =
      s.setPage { s.page with staging := staging, target := target } := by
  induction ls with
  | nil => exact fun s => ⟨s.page.staging, s.page.target, fun _ => rfl, fun _ => rfl, rfl⟩
  | cons k ls ih =>
    intro s
    obtain ⟨staging, target, hs, ht, he⟩ := ih (s.setBoth k (f s.page.sensed k))
    have entry : ∀ (t : Image) (l : Line), (if l ∈ ls then f s.page.sensed l else (t.set k (f s.page.sensed k)).get l) =
        if l ∈ k :: ls then f s.page.sensed l else t.get l := by
      intro t l
      rw [Table.get_set]
      by_cases hl : l = k
      · subst hl
        simp
      · simp [hl, Ne.symm hl]
    refine ⟨staging, target, fun l => ?_, fun l => ?_, ?_⟩
    · rw [hs]
      exact entry s.page.staging l
    · rw [ht]
      exact entry s.page.target l
    · rw [List.foldl_cons, he]
      rfl

theorem mem_sweptLines (s : State) (l : Line) : l ∈ s.sweptLines ↔ s.lineInService l = true := by
  simp [State.sweptLines, mem_allLines]

/-- A byte that is not 0 has a bit set. -/
theorem byte_ne_zero_iff (b : Byte) : b ≠ 0 ↔ ∃ d : Dot, b.getLsbD d.val = true := by
  constructor
  · intro h
    by_contra none
    refine h (BitVec.eq_of_getLsbD_eq fun i hi => ?_)
    show b.getLsbD i = (0#8).getLsbD i
    rw [BitVec.getLsbD_zero, ← Bool.not_eq_true]
    exact fun hb => none ⟨⟨i, hi⟩, hb⟩
  · rintro ⟨d, hd⟩ rfl
    simp at hd

/-- A line has a raised pin in sensed exactly where one of its cell bytes is not 0. -/
theorem hasRaised_iff (s : State) (l : Line) : s.hasRaised l = true ↔ ∃ p, pinState (s.sensed l) p = true := by
  unfold State.hasRaised
  rw [List.any_eq_true]
  constructor
  · rintro ⟨b, hb, hne⟩
    obtain ⟨c, rfl⟩ := (s.sensed l).mem_cells hb
    obtain ⟨d, hd⟩ := (byte_ne_zero_iff _).1 (bne_iff_ne.1 hne)
    refine ⟨pinAt c d, ?_⟩
    rw [pinState, cellOf_pinAt, dotOf_pinAt]
    exact hd
  · rintro ⟨p, hp⟩
    exact ⟨_, (s.sensed l).get_mem (cellOf p), bne_iff_ne.2 ((byte_ne_zero_iff _).2 ⟨dotOf p, hp⟩)⟩

/-- Lines taken from all lines stand in ascending order. -/
theorem pairwise_filter_allLines (p : Line → Bool) : (allLines.filter p).Pairwise (· < ·) :=
  List.Pairwise.filter _ (List.pairwise_lt_finRange 24)

theorem nodup_of_pairwise_lt {ls : List Line} (h : ls.Pairwise (· < ·)) : ls.Nodup :=
  h.imp fun h => ne_of_lt h

/-- The sweep's end under HOLD and under BLANK (R7). -/
theorem sweepCompletes_completeSweep (queue : s.engine.queue = []) (returns : s.engine.returnList = []) :
    SweepCompletes (.next s.completeSweep.settle) s where
  hold policy := by
    obtain ⟨staging, target, hs, ht, he⟩ := foldl_setBoth (fun sensed l => sensed.get l) s.sweptLines
      (s.setStage .running)
    refine ⟨staging, target, fun l => ?_, fun l => ?_, ?_⟩
    · rw [hs, if_congr (mem_sweptLines s l) rfl rfl]
      rfl
    · rw [ht, if_congr (mem_sweptLines s l) rfl rfl]
      rfl
    · have h : s.completeSweep =
          (s.sweptLines.foldl (fun s l => s.setBoth l (s.page.sensed.get l)) (s.setStage .running)).goIdle := by
        unfold State.completeSweep
        dsimp only
        rw [show (s.setStage .running).settings.resetPolicy = .hold from policy]
        rfl
      rw [h, he]
      exact congrArg (fun t => Host.Outcome.next t.settle)
        (goIdle_of_empty (s := (s.setStage .running).setPage { s.page with staging := staging, target := target }) returns)
  blank policy := by
    obtain ⟨staging, target, hs, ht, he⟩ := foldl_setBoth (fun _ _ => blankContent) s.sweptLines (s.setStage .running)
    have sorted : (s.sweptLines.filter s.hasRaised).Pairwise (· < ·) :=
      (pairwise_filter_allLines s.lineInService).filter _
    have served : ∀ l ∈ s.sweptLines.filter s.hasRaised, s.lineInService l = true := fun l hl =>
      (mem_sweptLines s l).1 (List.mem_filter.1 hl).1
    refine ⟨staging, target, s.sweptLines.filter s.hasRaised, fun l => ?_, fun l => ?_, sorted, fun l => ?_, ?_⟩
    · rw [hs, if_congr (mem_sweptLines s l) rfl rfl]
      rfl
    · rw [ht, if_congr (mem_sweptLines s l) rfl rfl]
      rfl
    · rw [List.mem_filter, mem_sweptLines, hasRaised_iff]
    · have h : s.completeSweep =
          ((s.sweptLines.foldl (fun s l => s.setBoth l blankContent) (s.setStage .running)).openRefresh
            (onlyRequester .station) (s.sweptLines.filter s.hasRaised)).kick := by
        unfold State.completeSweep
        dsimp only
        rw [show (s.setStage .running).settings.resetPolicy = .blank from policy]
        rfl
      have opened := openRefresh_served
        (s := (s.setStage .running).setPage { s.page with staging := staging, target := target })
        (onlyRequester .station) (nodup_of_pairwise_lt sorted) queue served
      rw [h, he]
      exact opened ▸ choosesFrom_kick _

/-! ### How the sweep goes on (R6) -/

theorem count_eq_zero_iff {n : Nat} (t : Table Bool n) : t.count = 0 ↔ ∀ i, t.get i = false := by
  unfold Table.count
  rw [List.count_eq_zero]
  constructor
  · intro h i
    rw [← Bool.not_eq_true]
    exact fun hi => h (hi ▸ t.get_mem i)
  · intro h hm
    obtain ⟨i, hi⟩ := t.mem_cells hm
    rw [h i] at hi
    cases hi

theorem sweepDone_iff (s : State) : s.sweepDone = true ↔
    (∀ l, s.engine.sweepWaiting.get l = false) ∧ ∀ m, s.moduleState m ≠ .starting := by
  simp [State.sweepDone, count_eq_zero_iff]

theorem members_eq_nil {n : Nat} {t : Table Bool n} (h : ∀ i, t.get i = false) : t.members = [] :=
  List.eq_nil_iff_forall_not_mem.2 fun i hi => by
    rw [Table.mem_members, h i] at hi
    cases hi

/-- The members of a set are listed from the lowest on. -/
theorem members_eq_cons {n : Nat} {t : Table Bool n} {i : Fin n} (hi : t.get i = true)
    (least : ∀ k < i, t.get k = false) : ∃ rest, t.members = i :: rest := by
  have sorted : t.members.Pairwise (· < ·) := (List.pairwise_lt_finRange n).filter _
  have hmem : i ∈ t.members := (t.mem_members i).2 hi
  cases hm : t.members with
  | nil =>
    rw [hm] at hmem
    cases hmem
  | cons k rest =>
    rw [hm] at hmem sorted
    rcases List.mem_cons.1 hmem with rfl | hr
    · exact ⟨rest, rfl⟩
    · have hk : t.get k = true := (t.mem_members k).1 (hm ▸ List.mem_cons_self)
      rw [least k (List.rel_of_pairwise_cons sorted hr)] at hk
      cases hk

/-- The sweep goes on: the lowest waiting line, the wait for STARTING modules, or the completion. -/
theorem sweepGoesOn_continueSweep (s : State) : SweepGoesOn (.next s.continueSweep.settle) s where
  inFlight busy := by rw [continueSweep_inFlight s busy]
  senses free l waits least := by
    obtain ⟨rest, first⟩ := members_eq_cons waits least
    rw [continueSweep_senses s free l rest first]
    rfl
  waits free empty starting := by
    obtain ⟨m, hm⟩ := starting
    rw [continueSweep_empty s free (members_eq_nil empty),
      if_neg fun done => ((sweepDone_iff s).1 done).2 m hm]
  completes free empty none queue returns := by
    rw [continueSweep_empty s free (members_eq_nil empty), if_pos ((sweepDone_iff s).2 ⟨empty, none⟩)]
    exact sweepCompletes_completeSweep queue returns

end Sys2Proof.Machine
end

section
/-!
SUPPORT. The screening of a request, the layouts of the messages, and WEAR_READ.
-/

namespace Sys2Proof.Machine

/-! ### The screening (R163) -/

theorem isRequestKind_iff (k : Byte) : isRequestKind k = true ↔ 1 ≤ k.toNat ∧ k.toNat ≤ 20 := by
  revert k
  decide +kernel

/-- A frame that the screening refuses is turned away. -/
theorem take_of_screened {s : State} {l : Link} {k : RequestKind} {f : Frame} {why : Reason} (serve : Service)
    (h : s.takeable l = some f) (hk : f.kind = kindCode k) (screened : s.screen l k f.payload.length = some why) :
    s.take l k serve = .next (s.turnedAway l f why) := by
  simp only [State.take, h, hk, screened, if_true]
  rfl

theorem stationOnly_iff (k : RequestKind) : stationOnly k = true ↔ k = .set ∨ k = .paneSplit ∨ k = .paneMerge ∨
    k = .faultClear ∨ k = .recordCommit ∨ k = .moduleReset ∨ k = .reset := by
  revert k
  rintro (_ | _) <;> decide

/-- The stages in which a request of the kind is served (R163, check 3). -/
def State.opens (s : State) (k : RequestKind) : Prop :=
  s.stage = .running ∨ (s.stage = .sweeping ∧ (k = .identify ∨ k = .status))

/-- The screening, check by check. -/
theorem screen_eq (s : State) (l : Link) (k : RequestKind) (n : Nat) :
    (stationOnly k = true ∧ l = .patron → s.screen l k n = some .notPermitted) ∧
    (¬ (stationOnly k = true ∧ l = .patron) → ¬ s.opens k → s.screen l k n = some .notReady) ∧
    (¬ (stationOnly k = true ∧ l = .patron) → s.opens k →
      s.screen l k n = if lengthAllowed k n = false then some .badLength else none) := by
  have permitted : ¬ (stationOnly k = true ∧ l = .patron) → (stationOnly k && l == .patron) = false := by
    rw [← Bool.not_eq_true, Bool.and_eq_true, beq_iff_eq]
    exact id
  refine ⟨fun h => ?_, fun h shut => ?_, fun h opened => ?_⟩
  · simp [State.screen, h.1, h.2]
  · rw [State.screen, permitted h]
    unfold State.opens at shut
    cases hs : s.stage with
    | running => exact absurd (Or.inl hs) shut
    | sweeping =>
      have hk : ¬ (k = .identify ∨ k = .status) := fun hk => shut (Or.inr ⟨hs, hk⟩)
      simp [State.loading, hs, not_or.1 hk]
    | _ => simp [State.loading, hs]
  · rw [State.screen, permitted h]
    rcases opened with hs | ⟨hs, rfl | rfl⟩
    · simp [State.loading, hs]
    · simp [State.loading, hs]
    · simp [State.loading, hs]

/-- Settles O4: the screening's checks in their order. -/
theorem screeningRefusesInItsOrder : Obligations.ScreeningRefusesInItsOrder := by
  refine ⟨fun l f s htake => ⟨fun hk => ?_, fun hk => ?_⟩, fun c l k f s hreq htake hk => ?_⟩
  · have unknown : isRequestKind f.kind = false := by
      rw [← Bool.not_eq_true, isRequestKind_iff]
      omega
    show execUnknownKindRequest l s = _
    simp only [execUnknownKindRequest, htake, unknown, Bool.false_eq_true, if_false]
    rfl
  · show execUnknownKindRequest l s = _
    simp only [execUnknownKindRequest, htake, (isRequestKind_iff _).2 hk, if_true]
  · intro stationAlone open_
    obtain ⟨serve, hexec, -⟩ := exec_request hreq
    obtain ⟨permitted, ready, length⟩ := screen_eq s l k f.payload.length
    have hstation : stationAlone ↔ stationOnly k = true := (stationOnly_iff k).symm
    have halone : stationAlone ∧ l = .patron ↔ stationOnly k = true ∧ l = .patron := and_congr_left' hstation
    rw [hexec s]
    refine ⟨fun h => take_of_screened serve htake hk (permitted (halone.1 h)),
      fun h shut => take_of_screened serve htake hk (ready (mt halone.2 h) shut), ?_⟩
    intro allowed code
    have hallowed : allowed f.payload.length k ↔ lengthAllowed k f.payload.length = true := by
      cases k <;> simp [allowed, lengthAllowed]
    refine ⟨by rw [hk]; cases k <;> rfl, fun h opened bad => ?_, fun h opened good => ⟨htake, hk, ?_⟩⟩
    · refine take_of_screened serve htake hk ?_
      rw [length (mt halone.2 h) opened, if_pos (Bool.eq_false_iff.2 (mt hallowed.2 bad))]
    · rw [length (mt halone.2 h) opened, if_neg (Bool.not_eq_false _ ▸ hallowed.1 good)]

/-! ### Layouts (R156, R165, R169, R175, R181) -/

theorem flatMap_byte {α : Type} (f : α → Byte) (xs : List α) : xs.flatMap (fun x => [f x]) = xs.map f :=
  List.flatMap_pure_eq_map f xs

/-- The sticky flags' bits (R181). -/
theorem getLsbD_flagsByte (x : StickyFlags) : (flagsByte x).getLsbD 0 = x.driveLimit ∧
    (flagsByte x).getLsbD 1 = x.linkError ∧ (flagsByte x).getLsbD 2 = x.noticesLost ∧
    (flagsByte x).getLsbD 3 = x.faultmapFull ∧ ∀ i, 4 ≤ i → (flagsByte x).getLsbD i = false := by
  refine ⟨getLsbD_byteOf _ 0, getLsbD_byteOf _ 1, getLsbD_byteOf _ 2, getLsbD_byteOf _ 3, fun i hi => ?_⟩
  by_cases h : i < 8
  · refine (getLsbD_byteOf _ ⟨i, h⟩).trans ?_
    interval_cases i <;> rfl
  · exact BitVec.getLsbD_of_ge _ _ (by omega)

/-- Settles O6: IDENTIFY, PANE_LIST and TRIM_LIST by their services; each layout by its definition, and each code of a
field by its cases. -/
theorem readRepliesAndMessageLayouts : Obligations.ReadRepliesAndMessageLayouts := by
  refine ⟨fun l f s => ⟨fun h => ?_, fun h => ?_, fun h => ?_, fun present rs => ?_⟩, ?_⟩
  · rw [show s.answered l f (.identify s.modules.present s.store.recordState) =
      (s.popFrame l).sendReply l f.tag (.identify (s.popFrame l).modules.present (s.popFrame l).store.recordState) by
        simp [State.answered, State.popFrame]]
    exact take_of_served (serve := serveIdentify l) h rfl
  · rw [show s.answered l f (.panes s.panes) = (s.popFrame l).sendReply l f.tag (.panes (s.popFrame l).panes) by
        simp [State.answered, State.popFrame]]
    exact take_of_served (serve := servePaneList l) h rfl
  · rw [show s.answered l f (.trims s.health.trims) =
      (s.popFrame l).sendReply l f.tag (.trims (s.popFrame l).health.trims) by simp [State.answered]]
    exact take_of_served (serve := serveTrimList l) h rfl
  · refine ⟨maskByte present.get, fun i => getLsbD_byteOf _ i, ?_⟩
    cases rs <;> rfl
  intro one two four yes owner widthClass engine charger modState outcome fault touch reason replies notices
  have howner : ∀ o, ownerCode o = BitVec.ofNat 8 (owner o) := by rintro (_ | _) <;> rfl
  have hmod : ∀ x, moduleCode x = BitVec.ofNat 8 (modState x) := by rintro (_ | _) <;> rfl
  have hfault : ∀ x, faultCode x = BitVec.ofNat 8 (fault x) := by rintro (_ | _) <;> rfl
  have hreason : ∀ x, reasonCode x = BitVec.ofNat 8 (reason x) := by rintro (_ | _) <;> rfl
  have hyes : ∀ b, flagByte b = BitVec.ofNat 8 (yes b) := by rintro (_ | _) <;> rfl
  have hengine : ∀ x, engineCode x = BitVec.ofNat 8 (engine x) := by rintro (_ | _) <;> rfl
  have hcharger : ∀ x, chargerCode x = BitVec.ofNat 8 (charger x) := by rintro (_ | _) <;> rfl
  have hclass : ∀ x, byte1 (classCode x) = BitVec.ofNat 8 (widthClass x) := by rintro (_ | _) <;> rfl
  have houtcome : ∀ x, outcomeCode x = BitVec.ofNat 8 (outcome x) := by rintro (_ | _) <;> rfl
  have htouch : ∀ x, touchCode x = BitVec.ofNat 8 (touch x) := by rintro (_ | _) <;> rfl
  refine ⟨fun r => ⟨flagsByte r.flags, ?_, getLsbD_flagsByte r.flags⟩, fun id v => ⟨rfl, rfl⟩, fun id t => ?_,
    fun w k => ⟨rfl, rfl⟩, fun g a b => ⟨rfl, rfl⟩, fun _ _ _ => rfl, fun t => ?_, fun id ln o => ⟨rfl, rfl, ?_⟩,
    fun n start es => ?_, fun _ _ => rfl, fun _ => rfl, fun _ _ => ?_, fun m x => ?_, rfl, rfl, fun k why => ?_,
    fun r => ?_, fun ln c d k => ?_, fun m x => ?_, fun z e => ?_, rfl, ?_⟩
  · show statusBytes r = _
    have modules : r.modules.cells.flatMap (fun m => one (modState m)) = r.modules.cells.map moduleCode := by
      rw [funext hmod]
      exact flatMap_byte _ _
    rw [modules, statusBytes, hyes, hyes, hengine, hcharger, hreason]
    simp [one, two, bytes2, byte1]
  · show byte1 id :: _ = _
    rw [funext hclass]
    exact congrArg _ (flatMap_byte _ _).symm
  · have record : paneBytes = fun p => one p.id.val ++ one p.first.val ++ one p.last.val ++ one (owner p.owner) :=
      funext fun p => by rw [paneBytes, howner]; rfl
    show byte1 t.length :: t.flatMap paneBytes = _
    rw [record]
    rfl
  · show [byte1 id.val, ownerCode o] = _
    rw [howner]
    rfl
  · have entry : faultBytes = fun e => one e.line.val ++ one e.cell.val ++ one (e.dot.val + 1) ++ one (fault e.kind) ++
        two e.generation.toNat := funext fun e => by rw [faultBytes, hfault]; rfl
    show [byte1 n, byte1 start] ++ es.flatMap faultBytes = _
    rw [entry]
    rfl
  · rfl
  · show [byte1 m.val, moduleCode x] = _
    rw [hmod]
    rfl
  · show [k, reasonCode why] = _
    rw [hreason]
    rfl
  · show noticePayload (.refreshClosed r) = _
    rw [noticePayload, houtcome]
    simp [one, two, bytes2, byte1, count2]
  · show [byte1 ln.val, byte1 c.val, dotNumber d, faultCode k] = _
    rw [hfault]
    rfl
  · show [byte1 m.val, moduleCode x] = _
    rw [hmod]
    rfl
  · show [byte1 z.val, touchCode e] = _
    rw [htouch]
    rfl
  · intro replyKinds noticeKinds framed
    have hreply : ∀ r, replyKind r = replyKinds r := by rintro (_ | _) <;> rfl
    have hnotice : ∀ n, noticeKind n = noticeKinds n := by rintro (_ | _) <;> rfl
    refine ⟨fun tag r => ?_, fun n => ?_, fun f => ?_⟩
    · show makeFrame (replyKind r) tag (replyPayload r) = _
      rw [hreply]
      rfl
    · show makeFrame (noticeKind n) 0 (noticePayload n) = _
      rw [hnotice]
      rfl
    · simp [frameBytes, one, two, bytes2, byte1]

/-! ### WEAR_READ (R147) -/

section
variable (l : Link) (s : State) {f : Frame} {hi lo count : Byte}

theorem serveWearRead_outOfRange (hp : f.payload = [hi, lo, count]) (h : 959 < 256 * hi.toNat + lo.toNat) :
    serveWearRead l s f = .error .outOfRange := by
  simp only [serveWearRead, hp]
  exact if_neg (Nat.not_lt.2 h)

theorem serveWearRead_inRange (hp : f.payload = [hi, lo, count]) (h : 256 * hi.toNat + lo.toNat ≤ 959) :
    serveWearRead l s f = .ok (s.sendReply l f.tag (.wear (256 * hi.toNat + lo.toNat)
      ((s.health.wear.cells.drop (256 * hi.toNat + lo.toNat)).take
        (wearCount (256 * hi.toNat + lo.toNat) count.toNat)))) := by
  simp only [serveWearRead, hp]
  exact if_pos (Nat.lt_succ_of_le h)

end

/-- Settles O11: the page of the wear table that the clamped count gives. -/
theorem wearReadShowsClampedCounts : Obligations.WearReadShowsClampedCounts := by
  intro l f s hi lo count hp htake first
  refine ⟨fun h => take_of_refused (serve := serveWearRead l) htake (serveWearRead_outOfRange l _ hp h), fun h => ?_⟩
  have hsize : s.health.wear.cells.length = 960 := s.health.wear.size
  refine ⟨(s.health.wear.cells.drop first).take (wearCount first count.toNat), ?_, ?_, fun i hlt hi => ?_⟩
  · have := take_of_served (serve := serveWearRead l) htake (serveWearRead_inRange l _ hp h)
    rw [health_popFrame] at this
    exact this
  · rw [List.length_take, List.length_drop, hsize]
    simp only [wearCount, clampTo, Config.wearReadPage]
    omega
  · rw [List.getElem?_take_of_lt, List.getElem?_drop, List.getElem?_eq_getElem (by rw [hsize]; exact hlt)]
    · rfl
    · rw [List.length_take] at hi
      omega

end Sys2Proof.Machine
end

section
/-!
SUPPORT. The choice of the current line, the closing of a refresh and the close decision, in the terms of the
statements.
-/

namespace Sys2Proof.Machine

variable {s : State}

/-! ### Closing (R26) -/

/-- The ports after REFRESH_CLOSED has gone to the requesters that have a link and are in service, but for the one
excepted (R26, R27). -/
def State.portsClosed (s : State) (r : Refresh) (o : CloseOutcome) (e : Option Identity) : Ports :=
  let n : Notice := .refreshClosed (s.closeReport r o)
  { s.ports with
    station :=
      if r.requesters.station = true ∧ e ≠ some .station ∧ s.powered = true then s.ports.station.pushNotice n
      else s.ports.station
    patron :=
      if r.requesters.patron = true ∧ e ≠ some .patron ∧ s.powered = true ∧ s.ports.presence = true then
        s.ports.patron.pushNotice n
      else s.ports.patron }

theorem sendClosed_eq (s : State) (r : Refresh) (o : CloseOutcome) (e : Option Identity) :
    s.sendClosed r o e = s.setPorts (s.portsClosed r o e) := by
  have station : ∀ n, (if (r.requesters.station && e != some .station) = true then s.notify .station n else s) =
      s.setPorts { s.ports with
        station := if r.requesters.station = true ∧ e ≠ some .station ∧ s.powered = true then
          s.ports.station.pushNotice n else s.ports.station } := by
    intro n
    by_cases h : r.requesters.station = true ∧ e ≠ some .station
    · rw [if_pos (by simpa using h)]
      by_cases hp : s.powered = true
      · rw [if_pos ⟨h.1, h.2, hp⟩, State.notify, if_pos (show s.inService .station = true from hp)]
        rfl
      · rw [if_neg fun k => hp k.2.2]
        simp only [State.notify, State.inService, hp]
        rfl
    · rw [if_neg (by simpa using h), if_neg fun k => h ⟨k.1, k.2.1⟩]
      rfl
  have patron : ∀ (u : State) n, (if (r.requesters.patron && e != some .patron) = true then u.notify .patron n else u) =
      u.setPorts { u.ports with
        patron := if r.requesters.patron = true ∧ e ≠ some .patron ∧ u.powered = true ∧ u.ports.presence = true then
          u.ports.patron.pushNotice n else u.ports.patron } := by
    intro u n
    by_cases h : r.requesters.patron = true ∧ e ≠ some .patron
    · rw [if_pos (by simpa using h)]
      by_cases hp : u.powered = true ∧ u.ports.presence = true
      · rw [if_pos ⟨h.1, h.2, hp⟩, State.notify, if_pos (by simpa [State.inService] using hp)]
        rfl
      · rw [if_neg fun k => hp k.2.2]
        have out : u.inService .patron = false := by
          rw [← Bool.not_eq_true]
          simpa [State.inService] using hp
        simp only [State.notify, out]
        rfl
    · rw [if_neg (by simpa using h), if_neg fun k => h ⟨k.1, k.2.1⟩]
      rfl
  unfold State.sendClosed
  dsimp only
  rw [station, patron]
  rfl

/-- A refresh that closes (R26): what is left of the engine, the two intervals, the prompt; then a line that waits
for its return sense is sensed. -/
theorem closeRefresh_eq (s : State) (r : Refresh) (o : CloseOutcome) (e : Option Identity) :
    s.closeRefresh r o e = ((((s.setPorts (s.portsClosed r o e)).setEngine
      { s.engine with refresh := none, state := .idle, auditInterval := timerOf s.settings.auditMs }).setReservoir
      { s.reservoir with idle := timerOf s.settings.chargerIdleMs }).setWriter
      { s.writer with prompt := true }).startReturn := by
  unfold State.closeRefresh State.goIdle
  rw [sendClosed_eq]
  rfl

section
variable (s : State)

theorem startReturn_cases : s.startReturn = s ∨ ∃ l, s.startReturn = s.startSense .return l := by
  unfold State.startReturn
  split
  · exact .inl rfl
  · exact .inr ⟨_, rfl⟩

theorem startReturn_keeps {α : Type} (g : State → α) (h : ∀ l, g (s.startSense .return l) = g s) :
    g s.startReturn = g s := by
  rcases startReturn_cases s with hs | ⟨l, hs⟩
  · rw [hs]
  · rw [hs, h]

@[simp] theorem ports_startReturn : s.startReturn.ports = s.ports :=
  startReturn_keeps s (·.ports) fun _ => rfl

@[simp] theorem page_startReturn : s.startReturn.page = s.page :=
  startReturn_keeps s (·.page) fun _ => rfl

@[simp] theorem reservoir_startReturn : s.startReturn.reservoir = s.reservoir :=
  startReturn_keeps s (·.reservoir) fun _ => rfl

@[simp] theorem refresh_startReturn : s.startReturn.engine.refresh = s.engine.refresh :=
  startReturn_keeps s (·.engine.refresh) fun _ => rfl

@[simp] theorem stale_startReturn : s.startReturn.engine.stale = s.engine.stale :=
  startReturn_keeps s (·.engine.stale) fun _ => rfl

@[simp] theorem generation_startReturn : s.startReturn.engine.generation = s.engine.generation :=
  startReturn_keeps s (·.engine.generation) fun _ => rfl

end

/-! ### The choice (R15, R17, R117) -/

theorem choose_of_returns {l : Line} {rest : List Line} (h : s.engine.returnList = l :: rest) :
    s.choose = s.startSense .return l := by
  simp [State.choose, State.chooseLoop, State.startReturn, h]

theorem choose_of_empty (returns : s.engine.returnList = []) (queue : s.engine.queue = []) :
    s.choose = s.closeDecision none := by
  simp [State.choose, State.chooseLoop, returns, queue]

theorem choose_of_none_ready (returns : s.engine.returnList = []) (queue : s.engine.queue ≠ [])
    (none : ∀ l ∈ s.engine.queue, s.lineModule l ≠ .ready) : s.choose = s.setEngineState .held := by
  have hn : s.nextReady = Option.none := by
    rw [State.nextReady, List.find?_eq_none]
    exact fun l hl hr => none l hl (beq_iff_eq.1 hr)
  simp [State.choose, State.chooseLoop, returns, queue, hn]

theorem nextReady_of_first {before after : List Line} {l : Line} (queue : s.engine.queue = before ++ l :: after)
    (ready : s.lineModule l = .ready) (first : ∀ k ∈ before, s.lineModule k ≠ .ready) : s.nextReady = some l := by
  rw [State.nextReady, List.find?_eq_some_iff_append]
  exact ⟨beq_iff_eq.2 ready, before, after, queue, fun k hk => by simpa using first k hk⟩

/-! ### The close decision (R25) -/

theorem closeDecision_of_no_stale {r : Refresh} (hr : s.engine.refresh = some r) (h : s.engine.stale.count = 0)
    (who : Option Identity) : s.closeDecision who = if who.isSome then s.closeRefresh r .cancelled who
      else if r.unsettled.count = 0 ∧ r.unavailable.count = 0 then s.closeRefresh r .complete who
      else s.closeRefresh r .partialWork who := by
  simp only [State.closeDecision, hr, h, if_true]

theorem closeDecision_of_no_deferral {r : Refresh} (hr : s.engine.refresh = some r) (stale : 0 < s.engine.stale.count)
    (h : r.expired = true ∨ s.settings.deferMs = 0) (who : Option Identity) :
    s.closeDecision who = s.closeRefresh r .partialWork who := by
  simp only [State.closeDecision, hr, Nat.pos_iff_ne_zero.1 stale, if_false]
  by_cases he : r.expired = true
  · rw [if_pos he]
  · rw [if_neg he, if_pos (h.resolve_left he)]

theorem closeDecision_of_deferral {r : Refresh} (hr : s.engine.refresh = some r) (stale : 0 < s.engine.stale.count)
    (he : r.expired = false) (hd : 0 < s.settings.deferMs) (who : Option Identity) :
    s.closeDecision who = (s.setEngine { s.engine with
      state := .deferred
      refresh := some { r with
        deadline := if r.deadline = none then some s.settings.deferMs else r.deadline } }).startReturn := by
  have start : r.startDeadline s.settings.deferMs =
      { r with deadline := if r.deadline = none then some s.settings.deferMs else r.deadline } := by
    unfold Refresh.startDeadline
    by_cases h : r.deadline = none
    · rw [if_pos h]
      simp [h, he, timerOf, hd]
    · rw [if_neg h, if_neg (by simp [h])]
  have deferred : s.closeDecision who =
      ((s.updRefresh fun r => r.startDeadline s.settings.deferMs).setEngineState .deferred).startReturn := by
    simp only [State.closeDecision, hr, Nat.pos_iff_ne_zero.1 stale, he, Nat.pos_iff_ne_zero.1 hd, if_false,
      Bool.false_eq_true]
  rw [deferred, State.updRefresh, hr, Option.map_some, start]
  rfl

/-- Settles O49: the choice, the close decision row by row, and the expiry of the deadline. -/
theorem choiceCloseDecisionAndDeadline : Obligations.ChoiceCloseDecisionAndDeadline := by
  refine ⟨?_, ?_, ?_⟩
  · intro s senses
    refine ⟨fun l rest h => choose_of_returns h, fun returns => ⟨fun queue => choose_of_empty returns queue,
      fun queue none => choose_of_none_ready returns queue none, fun before l after queue ready first => ?_⟩⟩
    have hchoose := choose_of_nextReady s l returns (nextReady_of_first queue ready first)
    refine ⟨fun stale => ?_, fun fresh => ?_⟩
    · rw [hchoose, State.takeLine]
      dsimp only
      rw [if_neg (by rw [State.fresh, stale]; exact Bool.false_ne_true)]
      rfl
    · rw [hchoose, State.takeLine]
      dsimp only
      rw [if_pos (show s.fresh l = true from fresh)]
  · intro s r who hr told timer back closed settled
    have hback : ∀ t : State, t.engine.returnList = s.engine.returnList → back t = t.startReturn := by
      intro t ht
      unfold State.startReturn
      rw [ht]
      cases hl : s.engine.returnList with
      | nil => simp only [back, hl]
      | cons l rest => simp only [back, hl]; rfl
    have hclosed : ∀ o, s.closeRefresh r o who = closed o := by
      intro o
      rw [closeRefresh_eq, timerOf_eq, timerOf_eq]
      refine (hback _ ?_).symm
      rfl
    have hsettled : r.unsettled.count = 0 ∧ r.unavailable.count = 0 ↔ settled := by
      rw [count_eq_zero_iff, count_eq_zero_iff]
      exact forall_and.symm
    refine ⟨fun h hw => ?_, fun h hw done => ?_, fun h hw undone => ?_, fun stale why => ?_, fun stale he hd => ?_⟩
    · rw [closeDecision_of_no_stale hr h, if_pos hw]
      exact hclosed _
    · rw [closeDecision_of_no_stale hr h, if_neg (by rw [hw]; exact Bool.false_ne_true), if_pos (hsettled.2 done)]
      exact hclosed _
    · rw [closeDecision_of_no_stale hr h, if_neg (by rw [hw]; exact Bool.false_ne_true), if_neg (mt hsettled.1 undone)]
      exact hclosed _
    · rw [closeDecision_of_no_deferral hr stale why]
      exact hclosed _
    · rw [closeDecision_of_deferral hr stale he hd]
      refine (hback _ ?_).symm
      rfl
  · intro s r hr running expired
    have hrefresh : expired.engine.refresh = some { r with deadline := none, expired := true } := rfl
    have hexpired : (s.updRefresh fun r => { r with deadline := none, expired := true }) = expired := by
      rw [State.updRefresh, hr]
      rfl
    have hexec : exec .deadlineExpiry s =
        if s.engine.state = .deferred then .next (expired.closeDecision none).settle else .next expired := by
      show execDeadlineExpiry s = _
      simp only [execDeadlineExpiry, hr, running, if_true, hexpired]
    refine ⟨fun hs => by rw [hexec, if_pos hs], fun hs => by rw [hexec, if_neg hs], fun hs alone stale => ?_⟩
    have hclose : expired.closeDecision none = expired.closeRefresh { r with deadline := none, expired := true }
        .partialWork none := closeDecision_of_no_deferral hrefresh stale (Or.inl rfl) none
    have panes : (expired.closeDecision none).panes = s.panes := (SameBesideEngine.closeDecision expired none).panes
    have alone' : (expired.closeDecision none).ownedLines .localWriter = [] := by
      rw [← alone]
      unfold State.ownedLines State.owns
      rw [panes]
    refine ⟨_, by rw [hexec, if_pos hs], ?_⟩
    have beside := (SameBesideEngine.setEngine s _).trans
      ((SameBesideEngine.closeDecision expired none).trans (.settle _))
    rw [settle_of_no_local alone', hclose, closeRefresh_eq] at beside ⊢
    refine ⟨refresh_startReturn _, generation_startReturn _, stale_startReturn _, fun returns => ?_, ?_, fun hr hp => ?_,
      fun hr hp hpres => ?_, page_startReturn _, beside⟩
    · rw [startReturn_of_empty (by exact returns)]
      rfl
    · rw [← timerOf_eq]
      exact reservoir_startReturn _
    · refine (congrArg Ports.station (ports_startReturn _)).trans ?_
      exact if_pos ⟨hr, nofun, hp⟩
    · refine (congrArg Ports.patron (ports_startReturn _)).trans ?_
      exact if_pos ⟨hr, nofun, hp, hpres⟩

end Sys2Proof.Machine
end

section
/-!
SUPPORT. SET: what it stores, id by id, and what it does at its taking.
-/

namespace Sys2Proof.Machine

/-! ### SET's service (R173) -/

/-- The value of a SET (R173). -/
theorem nat4_eq (a b c d : Byte) : nat4 a b c d = ((a.toNat * 256 + b.toNat) * 256 + c.toNat) * 256 + d.toNat := by
  unfold nat4
  omega

section
variable (l : Link) (s : State) {f : Frame} {id a b c d : Byte}

theorem serveSet_number {x : Settings} (hp : f.payload = [id, a, b, c, d])
    (hx : storeNumber s.settings id.toNat (nat4 a b c d) = some x) :
    serveSet l s f = .ok (s.serveSetNumber l f id.toNat x) := by
  simp only [serveSet, hp, hx]

theorem storeNumber_eq_none_iff (x : Settings) (id v : Nat) : storeNumber x id v = none ↔ id = 0 ∨ 14 < id := by
  constructor
  · intro h
    by_contra hid
    have : 1 ≤ id ∧ id ≤ 14 := by omega
    obtain ⟨hl, hg⟩ := this
    interval_cases id <;> cases h
  · rintro (rfl | h)
    · rfl
    · unfold storeNumber
      split <;> first | rfl | omega

theorem serveSet_noSuchSetting (hp : f.payload = [id, a, b, c, d]) (h : id.toNat = 0 ∨ 16 < id.toNat) :
    serveSet l s f = .error .outOfRange := by
  have number : storeNumber s.settings id.toNat (nat4 a b c d) = none :=
    (storeNumber_eq_none_iff _ _ _).2 (by omega)
  have table : settingTable s.settings id.toNat = none := (settingTable_eq_none_iff _ _).2 (by omega)
  simp only [serveSet, hp, number, table]

theorem classOf_eq_none {n : Nat} (h : 2 < n) : classOf n = none := by
  unfold classOf
  rw [if_neg (by omega), if_neg (by omega), if_neg (by omega)]

theorem classOf_classCode (k : WidthClass) : classOf (classCode k) = some k := by cases k <;> rfl

theorem serveSet_noSuchEntry (hp : f.payload = [id, a, b, c, d]) (h : id.toNat = 15 ∨ id.toNat = 16)
    (bad : 15 < nat4 a b c d / 256 ∨ 2 < nat4 a b c d % 256) : serveSet l s f = .error .outOfRange := by
  have number : storeNumber s.settings id.toNat (nat4 a b c d) = none :=
    (storeNumber_eq_none_iff _ _ _).2 (by omega)
  obtain ⟨t, table⟩ : ∃ t, settingTable s.settings id.toNat = some t := by
    rcases h with h | h
    · exact ⟨_, by rw [h]; rfl⟩
    · exact ⟨_, by rw [h]; rfl⟩
  simp only [serveSet, hp, number, table]
  split
  · rw [classOf_eq_none (by omega)]
  · rfl

theorem serveSet_entry {x : Settings} {i : Fin 16} {k : WidthClass} (hp : f.payload = [id, a, b, c, d])
    (hi : nat4 a b c d / 256 = i.val) (hk : nat4 a b c d % 256 = classCode k) (h : id.toNat = 15 ∨ id.toNat = 16)
    (hx : storeClass s.settings id.toNat i k = some x) :
    serveSet l s f = .ok ((s.setSettings x).sendReply l f.tag (.settingStored id.toNat (nat4 a b c d))) := by
  have number : storeNumber s.settings id.toNat (nat4 a b c d) = none :=
    (storeNumber_eq_none_iff _ _ _).2 (by omega)
  obtain ⟨t, table⟩ : ∃ t, settingTable s.settings id.toNat = some t := by
    rcases h with h | h
    · exact ⟨_, by rw [h]; rfl⟩
    · exact ⟨_, by rw [h]; rfl⟩
  have room : nat4 a b c d / 256 < 16 := by omega
  have entry : (⟨nat4 a b c d / 256, room⟩ : Fin 16) = i := Fin.ext hi
  simp only [serveSet, hp, number, table, room, dite_true, hk, classOf_classCode, entry, hx]

end

/-- The settings stored and the reply of a SET; its effects are to come. -/
def State.setTold (s : State) (l : Link) (f : Frame) (n stored : Nat) (y : Settings) : State :=
  (s.answered l f (.settingStored n stored)).setSettings y

@[simp] theorem engine_setTold (s : State) (l : Link) (f : Frame) (n stored : Nat) (y : Settings) :
    (s.setTold l f n stored y).engine = s.engine := by
  simp [State.setTold, State.answered, State.sendReply, State.popFrame]

@[simp] theorem reservoir_setTold (s : State) (l : Link) (f : Frame) (n stored : Nat) (y : Settings) :
    (s.setTold l f n stored y).reservoir = s.reservoir := by
  simp [State.setTold, State.answered, State.sendReply, State.popFrame]

@[simp] theorem writer_setTold (s : State) (l : Link) (f : Frame) (n stored : Nat) (y : Settings) :
    (s.setTold l f n stored y).writer = s.writer := by
  simp [State.setTold, State.answered, State.sendReply, State.popFrame]

@[simp] theorem settings_setTold (s : State) (l : Link) (f : Frame) (n stored : Nat) (y : Settings) :
    (s.setTold l f n stored y).settings = y := rfl

theorem setSettings_sendReply (s : State) (l : Link) (tag : Byte) (r : Reply) (y : Settings) :
    (s.setSettings y).sendReply l tag r = (s.sendReply l tag r).setSettings y := by cases l <;> rfl

/-- A SET of one of the settings 1 to 14: stored, told, and then its effects. -/
theorem exec_set_number {f : Frame} {s : State} {id a b c d : Byte} {y : Settings} {n stored : Nat}
    (hp : f.payload = [id, a, b, c, d]) (htake : Takes s .station .set f) (hn : id.toNat = n)
    (hy : storeNumber s.settings n (nat4 a b c d) = some y) (hv : settingNumber y n = some stored) :
    exec (.setSetting .station) s = .next ((s.setTold .station f n stored y).setEffect n).settle := by
  have hserve := serveSet_number .station (s.popFrame .station) hp (by rw [settings_popFrame, hn]; exact hy)
  refine (take_of_served (serve := serveSet .station) htake hserve).trans ?_
  unfold State.serveSetNumber
  rw [hn, hv]
  rfl

/-- A SET of one of the settings 1 to 14, with what its effects find: the engine, the reservoir, the writer and the panes
as they were, and the settings stored. -/
theorem exists_set_number {f : Frame} {s : State} {id a b c d : Byte} {y : Settings} {n stored : Nat}
    (hp : f.payload = [id, a, b, c, d]) (htake : Takes s .station .set f) (hn : id.toNat = n)
    (hy : storeNumber s.settings n (nat4 a b c d) = some y) (hv : settingNumber y n = some stored) :
    ∃ u : State, exec (.setSetting .station) s = .next (u.setEffect n).settle ∧ u.engine = s.engine ∧
      u.reservoir = s.reservoir ∧ u.writer = s.writer ∧ u.settings = y ∧ u.panes = s.panes :=
  ⟨_, exec_set_number hp htake hn hy hv, engine_setTold _ _ _ _ _ _, reservoir_setTold _ _ _ _ _ _,
    writer_setTold _ _ _ _ _ _, settings_setTold _ _ _ _ _ _, by
      simp [State.setTold, State.answered, State.sendReply, State.popFrame]⟩

/-- A SET of an entry of a class table: stored and told. -/
theorem exec_set_entry {f : Frame} {s : State} {id a b c d : Byte} {y : Settings} {i : Fin 16} {k : WidthClass} {n : Nat}
    (hp : f.payload = [id, a, b, c, d]) (htake : Takes s .station .set f) (hn : id.toNat = n) (table : n = 15 ∨ n = 16)
    (hi : nat4 a b c d / 256 = i.val) (hk : nat4 a b c d % 256 = classCode k)
    (hy : storeClass s.settings n i k = some y) :
    exec (.setSetting .station) s = .next (s.setTold .station f n (nat4 a b c d) y) := by
  have hserve := serveSet_entry .station (s.popFrame .station) hp hi hk (by rw [hn]; exact table)
    (by rw [settings_popFrame, hn]; exact hy)
  refine (take_of_served (serve := serveSet .station) htake hserve).trans ?_
  rw [hn]
  rfl

/-- The settings that no block reads at once have no effect at their SET. -/
theorem setEffect_of_quiet {n : Nat} (h : n < 8 ∨ 12 < n) (s : State) : s.setEffect n = s := by
  unfold State.setEffect
  split <;> first | rfl | omega

theorem deferSet_beside (s : State) : SameBesideEngine s s.deferSet := by
  unfold State.deferSet
  split
  · split
    · exact .closeDecision s none
    · exact .refl s
  · split
    · exact .refl s
    · exact .updRefresh s _

theorem compareReady_beside (s : State) : SameBesideEngine s s.compareReady := by
  unfold State.compareReady
  split
  · split
    · exact .andChoose s (.packingPoint s _)
    · exact .refl s
  · exact .refl s

theorem setEffect_beside (s : State) (n : Nat) : SameBesideEngine s (s.setEffect n) := by
  unfold State.setEffect
  split
  · exact deferSet_beside s
  · exact compareReady_beside s
  · exact compareReady_beside s
  · unfold State.chargerIdleSet
    split
    · exact .setReservoir s _
    · exact .refl s
  · unfold State.auditSet
    split
    · exact .setEngine s _
    · exact .refl s
  · exact .refl s

/-- The effects of a SET leave the settings and the reply. -/
theorem carries_setEffect (s : State) (f : Frame) (n stored : Nat) (y : Settings) :
    ((s.setTold .station f n stored y).setEffect n).settle.settings = y ∧
    ((s.setTold .station f n stored y).setEffect n).settle.ports.station.carries
      (.reply f.tag (.settingStored n stored)) := by
  constructor
  · exact ((setEffect_beside _ n).trans (.settle _)).settings
  · have run := (BlockRun.setEffect (s.setTold .station f n stored y) n).trans (BlockRun.settle _)
    refine (BlockRun.port run .station).carries _ _ ?_
    exact carries_pushReply ((s.popFrame .station).port .station) f.tag (.settingStored n stored)

/-- Settles O12: id by id, what `storeNumber` and `storeClass` store. -/
theorem setClampsStoresAndAnswers : Obligations.SetClampsStoresAndAnswers := by
  intro f s id a b c d hp htake prompt v x quietly stores refused held
  have hv : nat4 a b c d = v := nat4_eq a b c d
  have quiet : ∀ (n stored : Nat) (y : Settings), n < 8 ∨ 12 < n → storeNumber s.settings n v = some y →
      settingNumber y n = some stored → quietly n stored y := by
    intro n stored y hn hy hstored hid
    rw [exec_set_number hp htake hid (hv ▸ hy) hstored, setEffect_of_quiet hn,
      settle_of_no_prompt (by rw [writer_setTold]; exact prompt)]
    rfl
  have stored : ∀ (n stored : Nat) (y : Settings), storeNumber s.settings n v = some y →
      settingNumber y n = some stored → stores n stored y := fun n stored y hy hstored hid =>
    ⟨_, exec_set_number hp htake hid (hv ▸ hy) hstored, carries_setEffect s f n stored y⟩
  have bit : (clampTo 0 1 v == 1) = (v != 0) := by
    unfold clampTo
    rcases Nat.eq_zero_or_pos v with h | h
    · rw [h]; rfl
    · rw [Nat.min_eq_left h, bne_iff_ne.2 (Nat.pos_iff_ne_zero.1 h)]; rfl
  have bitNat : (v != 0).toNat = held 0 1 := by
    rw [← bit]
    show (max 0 (min 1 v) == 1).toNat = max 0 (min 1 v)
    rcases Nat.eq_zero_or_pos v with h | h
    · rw [h]; rfl
    · rw [Nat.min_eq_left h]; rfl
  refine ⟨fun h => take_of_refused (serve := serveSet .station) htake (serveSet_noSuchSetting _ _ hp h),
    quiet 1 _ _ (by decide) rfl rfl, quiet 2 _ _ (by decide) rfl rfl, quiet 3 _ _ (by decide) rfl rfl,
    quiet 4 _ _ (by decide) rfl rfl, quiet 5 _ _ (by decide) rfl rfl,
    quiet 6 _ _ (by decide) (by rw [← bit]; rfl) (congrArg some bitNat),
    quiet 7 _ _ (by decide) (by rw [← bit]; rfl) (congrArg some bitNat),
    stored 8 _ _ rfl rfl, stored 9 _ _ rfl rfl, stored 10 _ _ rfl rfl, stored 11 _ _ rfl rfl, stored 12 _ _ rfl rfl,
    quiet 13 _ _ (by decide) (by rw [← bit]; rfl) (congrArg some bitNat), ?_, ?_, ?_⟩
  · have policy : (if clampTo 0 1 v = 1 then ResetPolicy.blank else .hold) = if v = 0 then .hold else .blank := by
      rcases Nat.eq_zero_or_pos v with h | h
      · rw [h]; rfl
      · rw [clampTo, Nat.min_eq_left h, if_neg (Nat.pos_iff_ne_zero.1 h)]; rfl
    refine quiet 14 _ _ (Or.inr (by omega)) (by rw [← policy]; rfl) ?_
    rcases Nat.eq_zero_or_pos v with h | h
    · simp [settingNumber, held, h]
    · simp [settingNumber, held, Nat.min_eq_left (show 1 ≤ v from h), Nat.pos_iff_ne_zero.1 h]
  · exact fun h bad => take_of_refused (serve := serveSet .station) htake
      (serveSet_noSuchEntry _ _ hp h (by rw [hv]; exact bad))
  · intro i k hi hk
    rw [← hv] at hi hk
    exact ⟨fun hid => hv ▸ exec_set_entry hp htake hid (Or.inl rfl) hi hk rfl,
      fun hid => hv ▸ exec_set_entry hp htake hid (Or.inr rfl) hi hk rfl⟩

/-! ### The settings that act at their SET (R85, R101, R174) -/

/-- A timer started with a value of a SET. -/
theorem timerOf_clampTo {hi v : Nat} (h : 0 < hi) :
    timerOf (clampTo 0 hi v) = if v = 0 then none else some (min hi v) := by
  rw [timerOf_eq, clampTo, Nat.zero_max]
  exact if_congr (by omega) rfl rfl

theorem chargerIdleSet_eq (s : State) : s.chargerIdleSet = s.setReservoir { s.reservoir with
    idle := if s.engine.refresh = none ∧ s.reservoir.charger ≠ .off then timerOf s.settings.chargerIdleMs
      else s.reservoir.idle } := by
  unfold State.chargerIdleSet
  by_cases h : s.engine.refresh = none ∧ s.reservoir.charger ≠ .off
  · rw [if_pos h, if_pos (by simpa using h)]
  · rw [if_neg h, if_neg (by simpa using h)]
    rfl

theorem auditSet_eq (s : State) : s.auditSet = s.setEngine (if s.engine.state = .idle then
    { s.engine with auditInterval := timerOf s.settings.auditMs } else s.engine) := by
  unfold State.auditSet
  split
  · rfl
  · rfl

theorem deferSet_of_pos {s : State} (h : s.settings.deferMs ≠ 0) : s.deferSet = s.setEngine
    (if s.engine.stale.count = 0 then s.engine else
      { s.engine with refresh := s.engine.refresh.map fun r =>
        if r.deadline = none ∧ r.expired = false then { r with deadline := timerOf s.settings.deferMs } else r }) := by
  have start : ∀ r : Refresh, r.startDeadline s.settings.deferMs =
      if r.deadline = none ∧ r.expired = false then { r with deadline := timerOf s.settings.deferMs } else r := fun r =>
    if_congr (by simp) rfl rfl
  unfold State.deferSet
  rw [if_neg h]
  split
  · rfl
  · rw [← funext start]
    rfl

/-- Where no packing point waits for charge the comparison with Q_READY does nothing. -/
theorem compareReady_of_not_waiting {s : State}
    (h : s.engine.state ≠ .charging ∨ s.engine.current = none ∨ s.reservoir.q < s.settings.qReady) :
    s.compareReady = s := by
  unfold State.compareReady
  split
  · rename_i c hc
    rw [if_neg]
    rintro ⟨hs, hq⟩
    rcases h with h | h | h
    · exact h hs
    · rw [h] at hc
      cases hc
    · omega
  · rfl

/-- A waiting packing point whose charge suffices is made. -/
theorem compareReady_of_waiting {s : State} {c : Current} (state : s.engine.state = .charging)
    (current : s.engine.current = some c) (ready : s.settings.qReady ≤ s.reservoir.q) :
    s.compareReady = State.andChoose (s.packingPoint c) := by
  simp only [State.compareReady, current, state, ready, and_self, if_true]

theorem writer_fire (s : State) (c : Current) (ks : List Pick) : (s.fire c ks).writer = s.writer := by
  rw [fire_eq]
  rfl

/-- Whether a line has a candidate rests on the images, the fault map and the guarded zones. -/
theorem hasCandidate_congr {s t : State} (page : t.page = s.page) (map : t.health.faultMap = s.health.faultMap)
    (guarded : t.guarded = s.guarded) (c : Current) : t.hasCandidate c = s.hasCandidate c := by
  unfold State.hasCandidate State.candidate State.undone State.mismatched State.faultMapped State.target State.sensed
  rw [page, map, guarded]

/-- Settles O13: the effects of the five settings, each by the equation of its effect. -/
theorem settingsThatActAtTheirSet : Obligations.SettingsThatActAtTheirSet := by
  intro f s id a b c d hp htake prompt v timer
  have hv : nat4 a b c d = v := nat4_eq a b c d
  refine ⟨fun hid => ?_, fun hid => ?_, fun hid hne => ?_, fun hid h0 hs => ?_, fun hid h0 hs stale alone opened => ?_, ?_⟩
  · obtain ⟨u, hexec, engine, reservoir, writer, settings, -⟩ := exists_set_number hp htake hid rfl rfl
    refine ⟨_, hexec, ?_⟩
    have idle : u.settings.chargerIdleMs = clampTo 0 600000 v := by rw [settings, hv]
    rw [show u.setEffect 11 = u.chargerIdleSet from rfl, chargerIdleSet_eq,
      settle_of_no_prompt (by rw [State.setReservoir_writer, writer]; exact prompt), engine,
      reservoir, idle, timerOf_clampTo (by decide)]
    exact ⟨engine, rfl, rfl, rfl⟩
  · obtain ⟨u, hexec, engine, reservoir, writer, settings, -⟩ := exists_set_number hp htake hid rfl rfl
    refine ⟨_, hexec, ?_⟩
    have audit : u.settings.auditMs = clampTo 0 60000 v := by rw [settings, hv]
    rw [show u.setEffect 12 = u.auditSet from rfl, auditSet_eq,
      settle_of_no_prompt (by rw [State.setEngine_writer, writer]; exact prompt), engine, audit,
      timerOf_clampTo (by decide)]
    exact ⟨reservoir, rfl⟩
  · obtain ⟨u, hexec, engine, reservoir, writer, settings, -⟩ := exists_set_number hp htake hid rfl rfl
    refine ⟨_, hexec, ?_⟩
    have defer : u.settings.deferMs = clampTo 0 60000 v := by rw [settings, hv]
    have pos : clampTo 0 60000 v ≠ 0 := by
      unfold clampTo
      omega
    rw [show u.setEffect 8 = u.deferSet from rfl, deferSet_of_pos (by rw [defer]; exact pos),
      settle_of_no_prompt (by rw [State.setEngine_writer, writer]; exact prompt), engine, defer, timerOf_clampTo (by decide)]
    exact ⟨reservoir, rfl⟩
  · obtain ⟨u, hexec, engine, reservoir, writer, settings, -⟩ := exists_set_number hp htake hid rfl rfl
    have none : u.deferSet = u := by
      unfold State.deferSet
      rw [if_pos (by rw [settings, hv, h0]; rfl), if_neg (by rw [engine]; exact hs)]
    refine ⟨_, hexec, ?_⟩
    rw [show u.setEffect 8 = u.deferSet from rfl, none, settle_of_no_prompt (by rw [writer]; exact prompt)]
    exact ⟨engine, reservoir⟩
  · obtain ⟨u, hexec, engine, reservoir, writer, settings, panes⟩ := exists_set_number hp htake hid rfl rfl
    obtain ⟨r, hr⟩ := Option.isSome_iff_exists.1 opened
    have zero : u.settings.deferMs = 0 := by rw [settings, hv, h0]; rfl
    have closes : u.deferSet = u.closeRefresh r .partialWork Option.none := by
      unfold State.deferSet
      rw [if_pos zero, if_pos (by rw [engine]; exact hs)]
      exact closeDecision_of_no_deferral (engine ▸ hr) (engine ▸ stale) (Or.inr zero) Option.none
    have alone' : (u.closeRefresh r .partialWork Option.none).ownedLines .localWriter = [] := by
      rw [← alone]
      unfold State.ownedLines State.owns
      rw [(SameBesideEngine.closeRefresh u r .partialWork Option.none).panes, panes]
    refine ⟨_, hexec, ?_⟩
    rw [show u.setEffect 8 = u.deferSet from rfl, closes, settle_of_no_local alone', closeRefresh_eq]
    refine ⟨refresh_startReturn _, (stale_startReturn _).trans ?_, (generation_startReturn _).trans ?_⟩
    · show u.engine.stale = _
      rw [engine]
    · show u.engine.generation = _
      rw [engine]
  · intro held compares
    have waits : ∀ (n stored : Nat) (y : Settings), (∀ u : State, u.setEffect n = u.compareReady) →
        storeNumber s.settings n v = some y → settingNumber y n = some stored → y.guard = s.settings.guard →
        compares n stored y := by
      intro n stored y heffect hy hstored guard hid told
      have hexec : exec (.setSetting .station) s = .next told.compareReady.settle := by
        rw [exec_set_number hp htake hid (hv ▸ hy) hstored, heffect]
        rfl
      have engine : told.engine = s.engine := engine_setTold s .station f n stored y
      have reservoir : told.reservoir = s.reservoir := reservoir_setTold s .station f n stored y
      have writer : told.writer = s.writer := writer_setTold s .station f n stored y
      refine ⟨fun still => ?_, fun c state current ready => ?_⟩
      · rw [hexec, compareReady_of_not_waiting (by rw [engine, reservoir]; exact still),
          settle_of_no_prompt (by rw [writer]; exact prompt)]
      · rw [hexec, compareReady_of_waiting (by rw [engine]; exact state) (by rw [engine]; exact current)
          (by rw [reservoir]; exact ready)]
        have cells : told.lineModule = s.lineModule ∧ told.hasCandidate c = s.hasCandidate c := by
          refine ⟨funext fun l => ?_, hasCandidate_congr ?_ ?_ (funext fun z => ?_) c⟩ <;>
            simp [told, State.answered, State.sendReply, State.popFrame, State.lineModule, State.moduleState,
              State.guarded, guard]
        refine ⟨rfl, packsFrom_packingPoint told c, fun cool some => ?_⟩
        rw [packingPoint_of_mayDrive told c (by rw [cells.1]; exact cool)
          ((hasCandidate_iff told c).1 (by rw [cells.2]; exact some))]
        rw [show State.andChoose (told.packOrWait c, false) = told.packOrWait c from rfl, State.packOrWait,
          if_pos (by rw [reservoir]; exact ready),
          settle_of_no_prompt (by rw [writer_fire, writer]; exact prompt)]
    exact ⟨waits 9 _ _ (fun _ => rfl) rfl rfl rfl, waits 10 _ _ (fun _ => rfl) rfl rfl rfl⟩

end Sys2Proof.Machine
end

section
/-!
SUPPORT. The scope of SHOW and CANCEL, the requests on the pane table, and the presence line.
-/

namespace Sys2Proof.Machine

variable {s : State}

/-! ### The scope (R8, R27) -/

@[simp] theorem panes_popFrame (s : State) (l : Link) : (s.popFrame l).panes = s.panes := setPort_panes s l _

theorem scope_popFrame (s : State) (l : Link) : (s.popFrame l).scope = s.scope := by cases l <;> rfl

/-- A SHOW and a CANCEL whose scope is refused are turned away. -/
theorem refused_of_scope {l : Link} {f : Frame} {why : Reason} (h : s.scope (linkIdentity l) f.payload = .error why) :
    (Takes s l .show_ f → exec (.showPanes l) s = .next (s.turnedAway l f why)) ∧
    (Takes s l .cancel f → exec (.cancel l) s = .next (s.turnedAway l f why)) := by
  constructor
  · intro htake
    refine take_of_refused (serve := serveShow l) htake ?_
    simp only [serveShow, scope_popFrame, h]
  · intro htake
    refine take_of_refused (serve := serveCancel l) htake ?_
    simp only [serveCancel, scope_popFrame, h]

/-- The pane with an id is found where no two panes share one. -/
theorem findPane_of_mem {id : Byte} {before after : List Pane} {p : Pane} (ids : (s.panes.map (·.id)).Nodup)
    (hpanes : s.panes = before ++ p :: after) (hid : p.id.val = id.toNat) : s.findPane id = some p := by
  unfold State.findPane
  rw [hpanes] at ids ⊢
  exact find?_id ids hid

theorem mem_paneLines (p : Pane) (l : Line) : l ∈ paneLines p ↔ p.first ≤ l ∧ l ≤ p.last := by
  simp [paneLines, mem_allLines, paneHas]

theorem owns_iff (s : State) (who : Identity) (l : Line) :
    s.owns who l = true ↔ ∃ p ∈ s.panes, p.owner = who ∧ p.first ≤ l ∧ l ≤ p.last := by
  simp [State.owns, paneHas]

/-- Settles O16: the scope by the payload's cases. -/
theorem showAndCancelScopeIsChecked : Obligations.ShowAndCancelScopeIsChecked := by
  intro l f s _ refused
  refine ⟨fun hp => ⟨s.ownedLines (linkIdentity l), by rw [hp]; rfl, fun ln => ?_⟩, fun id hp none => ?_,
    fun id p hp hmem hid ids => ⟨fun other => ?_, fun own => ⟨paneLines p, ?_, mem_paneLines p⟩⟩⟩
  · rw [mem_ownedLines, owns_iff]
  · refine refused_of_scope ?_
    rw [hp, State.scope, (findPane_eq_none_iff s id).2 none]
  · obtain ⟨before, after, hpanes⟩ := List.append_of_mem hmem
    refine refused_of_scope ?_
    rw [hp, State.scope, findPane_of_mem ids hpanes hid]
    exact if_neg other
  · obtain ⟨before, after, hpanes⟩ := List.append_of_mem hmem
    rw [hp, State.scope, findPane_of_mem ids hpanes hid]
    exact if_pos own

/-! ### The pane table (R35 to R38) -/

/-- A prompt raised where none stood, answered at the end of the event. -/
theorem settle_promptIf {u : State} (prompt : u.writer.prompt = false) (b : Bool) :
    (u.promptIf b).settle = if b = true then u.promptWriter.settle else u := by
  cases b with
  | true => rfl
  | false => exact settle_of_no_prompt prompt

/-- All ids are taken exactly where the table is full (R33, R35). -/
theorem lowestFreeId_eq_none_iff {panes : List Pane} (ids : (panes.map (·.id)).Nodup) :
    lowestFreeId panes = none ↔ panes.length = 8 := by
  have taken : lowestFreeId panes = none ↔ ∀ i : Fin 8, i ∈ panes.map (·.id) := by
    simp [lowestFreeId, List.find?_eq_none, List.mem_finRange]
  have card : (panes.map (·.id)).toFinset.card = panes.length := by
    rw [List.toFinset_card_of_nodup ids, List.length_map]
  rw [taken, ← card]
  constructor
  · intro h
    rw [Finset.eq_univ_of_forall fun i => List.mem_toFinset.2 (h i)]
    rfl
  · intro h i
    have all := Finset.eq_univ_of_card _ (h.trans (Fintype.card_fin 8).symm)
    exact List.mem_toFinset.1 (all ▸ Finset.mem_univ i)

/-- What a request on the pane table makes before its prompt is answered: the table and the reply. -/
theorem panes_settle_promptIf (u : State) (b : Bool) : (u.promptIf b).settle.panes = u.panes :=
  ((SameBesideEngine.promptIf u b).trans (.settle _)).panes

/-- The prompt of an event and its answers keep a reply in its port. -/
theorem carries_settle_promptIf {u : State} {l : Link} {tag : Byte} {r : Reply} (b : Bool)
    (h : (u.port l).carries (.reply tag r)) : ((u.promptIf b).settle.port l).carries (.reply tag r) :=
  (BlockRun.port ((BlockRun.promptIf u b).trans (BlockRun.settle _)) l).carries tag r h

theorem carries_answered (s : State) (l : Link) (f : Frame) (r : Reply) :
    ((s.answered l f r).port l).carries (.reply f.tag r) := by
  rw [State.answered, State.sendReply, port_setPort_same]
  exact carries_pushReply _ f.tag r

section
variable (l : Link) (s : State) {f : Frame} {id at_ owner : Byte} {p q : Pane} {ln : Line} {new : Fin 8}

theorem servePaneSplit_noPane (hp : f.payload = [id, at_]) (none : s.findPane id = none) :
    servePaneSplit l s f = .error .outOfRange := by
  simp only [servePaneSplit, hp, none]

theorem servePaneSplit_outside (hp : f.payload = [id, at_]) (found : s.findPane id = some p)
    (out : at_.toNat ≤ p.first.val ∨ p.last.val < at_.toNat) : servePaneSplit l s f = .error .outOfRange := by
  simp only [servePaneSplit, hp, found]
  by_cases h : at_.toNat < 24
  · rw [lineOf_of_toNat (ln := ⟨at_.toNat, h⟩) rfl]
    refine if_neg fun inside => ?_
    have first : p.first.val < at_.toNat := inside.1
    have last : at_.toNat ≤ p.last.val := inside.2
    omega
  · rw [(lineOf_eq_none_iff at_).2 (by omega)]

theorem servePaneSplit_full (hp : f.payload = [id, at_]) (found : s.findPane id = some p) (hat : at_.toNat = ln.val)
    (inside : p.first < ln ∧ ln ≤ p.last) (full : lowestFreeId s.panes = none) :
    servePaneSplit l s f = .error .panesFull := by
  simp only [servePaneSplit, hp, found, lineOf_of_toNat hat, full, if_pos inside]

theorem servePaneSplit_free (hp : f.payload = [id, at_]) (found : s.findPane id = some p) (hat : at_.toNat = ln.val)
    (inside : p.first < ln ∧ ln ≤ p.last) (free : lowestFreeId s.panes = some new) :
    servePaneSplit l s f = .ok (State.settle (State.promptIf
      ((s.setPanes (splitPanes s.panes p ln new)).sendReply l f.tag (.paneSplit new)) (p.owner == .localWriter))) := by
  simp only [servePaneSplit, hp, found, lineOf_of_toNat hat, free, if_pos inside]

theorem servePaneMerge_noPane (hp : f.payload = [id]) (none : s.findPane id = none) :
    servePaneMerge l s f = .error .outOfRange := by
  simp only [servePaneMerge, hp, none]

theorem servePaneMerge_last (hp : f.payload = [id]) (found : s.findPane id = some p)
    (none : s.panes.find? (fun q => q.first.val == p.last.val + 1) = none) :
    servePaneMerge l s f = .error .panesMismatch := by
  simp only [servePaneMerge, hp, found, none]

theorem servePaneMerge_following (hp : f.payload = [id]) (found : s.findPane id = some p)
    (following : s.panes.find? (fun q => q.first.val == p.last.val + 1) = some q) :
    servePaneMerge l s f = if q.owner = p.owner then .ok (State.settle (State.promptIf
      ((s.setPanes (mergePanes s.panes p q)).sendReply l f.tag (.paneMerged p.id q.last))
      (p.owner == .localWriter))) else .error .panesMismatch := by
  simp only [servePaneMerge, hp, found, following]

end

/-- A change of the table and the reply, with the frame taken first or last. -/
theorem setPanes_popFrame (s : State) (l : Link) (f : Frame) (r : Reply) (panes : List Pane) :
    ((s.popFrame l).setPanes panes).sendReply l f.tag r = (s.setPanes panes).answered l f r := by cases l <;> rfl

/-- A request of STATION that changed the table: the table and the reply stand, and LOCAL's part is prompted. -/
theorem panes_changed {s : State} {l : Link} {f : Frame} {k : RequestKind} {serve : Service} {panes : List Pane}
    {r : Reply} {b : Bool} (htake : Takes s l k f) (prompt : s.writer.prompt = false)
    (hserve : serve (s.popFrame l) f =
      .ok (((((s.popFrame l).setPanes panes).sendReply l f.tag r).promptIf b).settle)) : ∃ t,
      s.take l k serve = .next t ∧ t.panes = panes ∧ (t.port l).carries (.reply f.tag r) ∧
      t = if b = true then ((s.setPanes panes).answered l f r).promptWriter.settle
        else (s.setPanes panes).answered l f r := by
  rw [setPanes_popFrame] at hserve
  refine ⟨_, take_of_served htake hserve, ?_, carries_settle_promptIf b (carries_answered _ l f r), settle_promptIf ?_ b⟩
  · rw [panes_settle_promptIf]
    simp [State.answered, State.sendReply]
  · simpa [State.answered, State.sendReply, State.popFrame] using prompt

/-- Settles O21: the checks of PANE_SPLIT, and the split as `splitPanes_eq` has it. -/
theorem splitDividesOnePane : Obligations.SplitDividesOnePane := by
  intro f s id at_ hp htake ok prompt refused
  have out : ∀ {why : Reason}, servePaneSplit .station (s.popFrame .station) f = .error why → refused why :=
    fun h => take_of_refused (serve := servePaneSplit .station) htake h
  refine ⟨fun none => out (servePaneSplit_noPane _ _ hp ((findPane_eq_none_iff s id).2 none)),
    fun before after p hpanes hid => ?_⟩
  have found : (s.popFrame .station).findPane id = some p := findPane_of_mem ok.ids hpanes hid
  refine ⟨fun hat => out (servePaneSplit_outside _ _ hp found hat), fun first last => ?_⟩
  obtain ⟨ln, hat⟩ := exists_line (b := at_) (by omega)
  have inside : p.first < ln ∧ ln ≤ p.last := by
    rw [Fin.lt_def, Fin.le_def]
    omega
  have ids := ok.ids
  rw [hpanes] at ids
  refine ⟨fun full => out (servePaneSplit_full _ _ hp found hat inside ((lowestFreeId_eq_none_iff ok.ids).2 full)),
    fun room => ?_⟩
  obtain ⟨new, free⟩ := Option.ne_none_iff_exists'.1 (mt (lowestFreeId_eq_none_iff ok.ids).1 room.ne)
  obtain ⟨unused, least⟩ := (lowestFreeId_eq_some_iff s.panes new).1 free
  obtain ⟨t, hexec, hpanes', carried, ht⟩ := panes_changed (serve := servePaneSplit .station) htake prompt
    (servePaneSplit_free _ _ hp found hat inside free)
  have hsplit : splitPanes s.panes p ln new = before ++ lowerPart p ln :: upperPart p ln new :: after := by
    rw [hpanes, splitPanes_eq ids]
  refine ⟨new, lowerPart p ln, upperPart p ln new, t, hexec, unused, least, rfl, ?_, rfl, hat.symm, hpanes'.trans hsplit,
    carried, ?_⟩
  · show ln.val - 1 = at_.toNat - 1
    rw [hat]
  · rw [hpanes', ht]
    exact if_congr beq_iff_eq rfl rfl

/-- Settles O22: the checks of PANE_MERGE, and the merge as `mergePanes_eq` has it. -/
theorem mergeJoinsTheFollowingPane : Obligations.MergeJoinsTheFollowingPane := by
  intro f s id hp htake ok prompt refused
  have out : ∀ {why : Reason}, servePaneMerge .station (s.popFrame .station) f = .error why → refused why :=
    fun h => take_of_refused (serve := servePaneMerge .station) htake h
  have cover := ok.cover
  have ids := ok.ids
  refine ⟨fun none => out (servePaneMerge_noPane _ _ hp ((findPane_eq_none_iff s id).2 none)),
    fun before p hpanes hid => out ?_, fun before after p q hpanes hid => ?_⟩
  · refine servePaneMerge_last _ _ hp (findPane_of_mem ids hpanes hid) ?_
    rw [panes_popFrame, hpanes]
    rw [hpanes] at cover
    exact find?_following_last cover
  · have following : (s.popFrame .station).panes.find? (fun x => x.first.val == p.last.val + 1) = some q := by
      rw [panes_popFrame, hpanes]
      rw [hpanes] at cover
      exact find?_following cover
    have hserve := servePaneMerge_following .station (s.popFrame .station) hp (findPane_of_mem ids hpanes hid) following
    refine ⟨fun other => out (hserve.trans (if_neg other)), fun same => ?_⟩
    obtain ⟨t, hexec, hpanes', carried, ht⟩ := panes_changed (serve := servePaneMerge .station) htake prompt
      (hserve.trans (if_pos same))
    have hmerge : mergePanes s.panes p q = before ++ { p with last := q.last } :: after := by
      rw [hpanes] at ids ⊢
      exact mergePanes_eq ids
    refine ⟨t, hexec, hpanes'.trans hmerge, carried, ?_⟩
    rw [hpanes', ht]
    exact if_congr beq_iff_eq rfl rfl

/-! ### Changes of owner (R37, R38, R42) -/

/-- A change of owner sets the staging of its lines to their target. -/
theorem stagingToTarget_eq (ls : List Line) : ∀ s : State, ∃ staging : Image,
    (∀ l, staging.get l = if l ∈ ls then s.target l else s.staging l) ∧
    s.stagingToTarget ls = s.setPage { s.page with staging := staging } := by
  induction ls with
  | nil => exact fun s => ⟨s.page.staging, fun _ => rfl, rfl⟩
  | cons k ls ih =>
    intro s
    obtain ⟨staging, hs, he⟩ := ih (s.putStaging k (s.target k))
    refine ⟨staging, fun l => ?_, he⟩
    rw [hs]
    show (if l ∈ ls then s.target l else (s.page.staging.set k (s.target k)).get l) = _
    rw [Table.get_set]
    by_cases hl : l = k
    · subst hl
      simp
    · simp [hl, Ne.symm hl, State.staging]

theorem ownerOf_ownerCode (new : Identity) : ownerOf (ownerCode new) = some new := by cases new <;> rfl

theorem ownerOf_eq_none {b : Byte} (h : 2 < b.toNat) : ownerOf b = none := by
  unfold ownerOf
  rw [if_neg, if_neg, if_neg]
  · rintro rfl
    exact absurd h (by decide)
  · rintro rfl
    exact absurd h (by decide)
  · rintro rfl
    exact absurd h (by decide)

section
variable (l : Link) (s : State) {f : Frame} {id owner : Byte} {p : Pane} {new : Identity}

theorem servePaneGrant_noPane (hp : f.payload = [id, owner]) (none : s.findPane id = none) :
    servePaneGrant l s f = .error .outOfRange := by
  simp only [servePaneGrant, hp, none]

theorem servePaneGrant_noOwner (hp : f.payload = [id, owner]) (found : s.findPane id = some p)
    (none : ownerOf owner = none) : servePaneGrant l s f = .error .outOfRange := by
  simp only [servePaneGrant, hp, found, none]

theorem servePaneGrant_refused {why : Reason} (hp : f.payload = [id, owner]) (found : s.findPane id = some p)
    (known : ownerOf owner = some new) (refused : s.grantCheck l p new = some why) :
    servePaneGrant l s f = .error why := by
  simp only [servePaneGrant, hp, found, known, refused]

theorem servePaneGrant_same (hp : f.payload = [id, owner]) (found : s.findPane id = some p)
    (known : ownerOf owner = some new) (allowed : s.grantCheck l p new = none) (same : p.owner = new) :
    servePaneGrant l s f = .ok (s.sendReply l f.tag (.paneGranted p.id new)) := by
  simp only [servePaneGrant, hp, found, known, allowed, if_pos same]

theorem servePaneGrant_other (hp : f.payload = [id, owner]) (found : s.findPane id = some p)
    (known : ownerOf owner = some new) (allowed : s.grantCheck l p new = none) (other : p.owner ≠ new) :
    servePaneGrant l s f = .ok ((s.sendReply l f.tag (.paneGranted p.id new)).changeOwner p new).settle := by
  simp only [servePaneGrant, hp, found, known, allowed, if_neg other]

theorem grantCheck_popFrame (k : Link) (p : Pane) (new : Identity) :
    (s.popFrame l).grantCheck k p new = s.grantCheck k p new := by cases l <;> rfl

end

/-- A change of owner, from the state with the reply sent: the table, the staging of the pane's lines, the prompt. -/
theorem changeOwner_eq (s : State) (l : Link) (f : Frame) (p : Pane) (new : Identity) : ∃ staging : Image,
    (∀ ln : Line, staging.get ln = if p.first ≤ ln ∧ ln ≤ p.last then s.target ln else s.staging ln) ∧
    ((s.popFrame l).sendReply l f.tag (.paneGranted p.id new)).changeOwner p new =
      (((s.setPanes (replacePane s.panes p.id { p with owner := new })).setPage
        { s.page with staging := staging }).answered l f (.paneGranted p.id new)).promptIf
          (new == .localWriter || p.owner == .localWriter) := by
  obtain ⟨staging, hs, he⟩ := stagingToTarget_eq (paneLines p) ((s.answered l f (.paneGranted p.id new)).setPanes
    (replacePane s.panes p.id { p with owner := new }))
  refine ⟨staging, fun ln => ?_, ?_⟩
  · rw [hs, if_congr (mem_paneLines p ln) rfl rfl]
    simp [State.answered, State.sendReply, State.target, State.staging]
  · have hpanes : ((s.popFrame l).sendReply l f.tag (.paneGranted p.id new)).panes = s.panes := by
      simp [State.sendReply]
    unfold State.changeOwner
    dsimp only
    rw [hpanes]
    refine congrArg (State.promptIf · (new == .localWriter || p.owner == .localWriter)) (he.trans ?_)
    cases l <;> rfl

/-- Settles O23: the checks of PANE_GRANT, the grant to the present owner, and the change of owner. -/
theorem grantChangesTheOwner : Obligations.GrantChangesTheOwner := by
  intro l f s id owner hp htake ok prompt refused
  have out : ∀ {why : Reason}, servePaneGrant l (s.popFrame l) f = .error why → refused why :=
    fun h => take_of_refused (serve := servePaneGrant l) htake h
  have pane : (s.popFrame l).findPane id = s.findPane id := by rw [State.findPane, panes_popFrame]; rfl
  refine ⟨fun none => out (servePaneGrant_noPane _ _ hp (pane.trans ((findPane_eq_none_iff s id).2 none))),
    fun before after p hpanes hid => ?_⟩
  have found := pane.trans (findPane_of_mem ok.ids hpanes hid)
  refine ⟨fun h => out (servePaneGrant_noOwner _ _ hp found (ownerOf_eq_none h)), fun new hnew => ?_⟩
  have known : ownerOf owner = some new := hnew ▸ ownerOf_ownerCode new
  have check := grantCheck_popFrame l s l p new
  refine ⟨fun hl h => out (servePaneGrant_refused _ _ hp found known (check.trans (if_pos ⟨hl, h⟩))), fun may => ?_⟩
  have permitted : ¬ (l = .patron ∧ (p.owner ≠ .patron ∨ new = .patron)) := by
    rintro ⟨hl, h⟩
    rcases may with hs | ⟨own, give⟩
    · rw [hl] at hs
      cases hs
    · exact h.elim (fun k => k own) give
  refine ⟨fun hn away => out (servePaneGrant_refused _ _ hp found known (check.trans ?_)), fun present => ?_⟩
  · rw [State.grantCheck, if_neg permitted, if_pos ⟨hn, away⟩]
  have allowed : (s.popFrame l).grantCheck l p new = none := by
    refine check.trans ?_
    rw [State.grantCheck, if_neg permitted, if_neg fun h => by rw [present h.1] at h; cases h.2]
  refine ⟨fun same => take_of_served (serve := servePaneGrant l) htake
    (servePaneGrant_same _ _ hp found known allowed same), fun other => ?_⟩
  obtain ⟨staging, hstaging, he⟩ := changeOwner_eq s l f p new
  have hserve := servePaneGrant_other l _ hp found known allowed other
  have ids := ok.ids
  have hreplace : replacePane s.panes p.id { p with owner := new } = before ++ { p with owner := new } :: after := by
    rw [hpanes] at ids ⊢
    exact replacePane_eq ids _
  rw [he, hreplace] at hserve
  refine ⟨staging, _, take_of_served (serve := servePaneGrant l) htake hserve, ?_,
    carries_settle_promptIf _ (carries_answered _ l f _), hstaging, ?_⟩
  · rw [panes_settle_promptIf]
    simp [State.answered, State.sendReply]
  · rw [panes_settle_promptIf, settle_promptIf (by simpa [State.answered, State.sendReply, State.popFrame] using prompt)]
    have hpanes' : ∀ u : State, (u.answered l f (.paneGranted p.id new)).panes = u.panes := fun u => by
      simp [State.answered, State.sendReply]
    rw [hpanes']
    refine if_congr ?_ rfl rfl
    rw [Bool.or_eq_true, beq_iff_eq, beq_iff_eq, or_comm]

/-- Settles O24: the loss of presence block by block. -/
theorem presenceLossAndGain : Obligations.PresenceLossAndGain := by
  intro s
  refine ⟨fun here on => ?_, fun here off => ?_, fun away => ?_⟩
  · obtain ⟨staging, hs, he⟩ := stagingToTarget_eq (s.ownedLines .patron)
      ((s.setPorts { s.ports with patron := freshPort, presence := false }).setPanes (revertPanes s.panes))
    have hlose : s.losePatron = (((s.setPorts { s.ports with patron := freshPort, presence := false }).setPanes
        (revertPanes s.panes)).setPage { s.page with staging := staging }).updRefresh fun r =>
          { r with requesters := { r.requesters with patron := false } } := congrArg (State.updRefresh · _) he
    have hexec : exec .presenceLost s = .next s.losePatron := by
      show execPresenceLost s = _
      rw [execPresenceLost, if_pos here, if_pos (show s.powered = true from bne_iff_ne.2 on)]
    refine ⟨_, hexec, ?_⟩
    rw [hlose]
    refine ⟨rfl, rfl, fun ln => ?_, rfl, rfl⟩
    show staging.get ln = _
    rw [hs]
    refine if_congr ?_ rfl rfl
    rw [mem_ownedLines, owns_iff]
  · show execPresenceLost s = _
    rw [execPresenceLost, if_pos here, if_neg (by rw [State.powered, off]; decide)]
  · show execPresenceGained s = _
    rw [execPresenceGained, if_neg (by rw [away]; exact Bool.false_ne_true)]

end Sys2Proof.Machine
end

section
/-!
SUPPORT. RECORD_COMMIT and its completion, RESET and the soft reset, power.
-/

namespace Sys2Proof.Machine

/-! ### The retained record (R149, R150) -/

/-- Settles O26: the snapshot and the reply; then the write's completion with its notice. -/
theorem recordCommitAndItsCompletion : Obligations.RecordCommitAndItsCompletion := by
  refine ⟨fun f s htake => ⟨fun busy => ?_, fun free => ⟨s.snapshot, rfl, rfl, ?_⟩⟩, fun s snapshot commit => ?_⟩
  · exact take_of_refused (serve := serveRecordCommit .station) htake (if_pos busy)
  · refine take_of_served (serve := serveRecordCommit .station) htake ?_
    have none : (s.popFrame .station).store.commit.isSome = false := by
      show s.store.commit.isSome = false
      rw [free]
      rfl
    simp only [serveRecordCommit, none, Bool.false_eq_true, if_false]
    rfl
  · have hexec : exec .recordWriteComplete s = .next (State.notify
        ((s.setStore { s.store with stored := .whole snapshot, commit := Option.none }).setPorts
          { s.ports with resetWait := s.ports.resetWait.map fun w => { w with commitCompleted := true } })
        .station .recordWritten) := by
      show execRecordWriteComplete s = _
      simp only [execRecordWriteComplete, commit]
      rfl
    refine ⟨_, hexec, ?_⟩
    rw [notify_eq]
    refine ⟨rfl, fun valid => if_pos valid, rfl, rfl, rfl, fun on => ?_, rfl⟩
    exact if_pos (show s.powered = true from bne_iff_ne.2 on)

/-! ### RESET and the soft reset (R179, R180) -/

theorem replyOutstanding_iff (p : Port) : p.replyOutstanding = true ↔
    (∃ tag r, Message.reply tag r ∈ p.queue) ∨ ∃ g, p.sending = some g ∧ isReplyFrame g = true := by
  unfold Port.replyOutstanding
  rw [Bool.or_eq_true, List.any_eq_true, Option.any_eq_true]
  refine or_congr ⟨?_, ?_⟩ Iff.rfl
  · rintro ⟨_ | _, hm, hr⟩
    · exact ⟨_, _, hm⟩
    · cases hr
  · rintro ⟨tag, r, hm⟩
    exact ⟨_, hm, rfl⟩

theorem resetDue_iff (s : State) (w : ResetWait) : s.resetDue w = true ↔
    s.ports.station.replyOutstanding = false ∧ (w.patronReply = true → s.ports.patron.replyOutstanding = false) ∧
    s.store.commit = none ∧ (w.commitCompleted = true → s.ports.station.writtenOutstanding = false) := by
  unfold State.resetDue
  cases w.patronReply <;> cases w.commitCompleted <;> simp [and_assoc]

theorem restartMask_iff (s : State) (m : ModuleId) : s.restartMask.get m = true ↔
    s.moduleState m = .ready ∨ s.moduleState m = .hot ∨ s.moduleState m = .starting := by
  simp [State.restartMask, inServiceState, or_assoc]

/-- Settles O28: RESET by its service; the soft reset field by field. -/
theorem resetIsAnsweredAndTakesEffectWhenDue : Obligations.ResetIsAnsweredAndTakesEffectWhenDue := by
  refine ⟨fun f s htake => ⟨_, ⟨s.ports.patron.replyOutstanding, false⟩,
    take_of_served (serve := serveReset .station) htake rfl, rfl, replyOutstanding_iff _, rfl, fun l => ?_⟩, ?_⟩
  · simp [State.takeable]
  · intro s w waits due
    have hexec : exec .softResetTakesEffect s = if s.resetDue w = true then .next s.softReset else .refused .cannotArise := by
      show execSoftResetTakesEffect s = _
      simp only [execSoftResetTakesEffect, waits]
    refine ⟨fun early => ?_, fun now => ⟨s.softReset, s.restartMask, ?_, rfl, restartMask_iff s, rfl, rfl, rfl, rfl, rfl,
      rfl, rfl, rfl, rfl, rfl, rfl, rfl, rfl, rfl, rfl, rfl, fun z => ?_, rfl, rfl, rfl⟩⟩
    · rw [hexec, if_neg (mt (resetDue_iff s w).1 early)]
    · rw [hexec, if_pos ((resetDue_iff s w).2 now)]
    · show (firstReadings s.zones _).get z = _
      rw [firstReadings, Table.get_tab]
      exact if_congr (by rw [Bool.and_eq_true, bne_iff_ne]) rfl rfl

/-! ### Power -/

/-- Settles O29: the board of a restart, field by field. -/
theorem powerOnAndPowerLossSetTheBoard : Obligations.PowerOnAndPowerLossSetTheBoard := by
  intro s board
  have restarted : ∀ stage, board stage (s.restarted stage) := fun stage =>
    ⟨rfl, rfl, rfl, rfl, rfl, rfl, rfl, rfl, rfl, rfl, rfl, rfl, rfl, rfl, rfl, rfl, rfl, rfl, rfl,
      fun z => Table.get_tab _ z⟩
  refine ⟨⟨_, rfl, restarted .loadingPowerOn⟩, fun on => ⟨_, ?_, restarted .unpowered⟩⟩
  exact if_pos (show s.powered = true from bne_iff_ne.2 on)

end Sys2Proof.Machine
end

section
/-!
SUPPORT. The two links: the receiver byte by byte, frames received whole, and what leaves a port.
-/

namespace Sys2Proof.Machine

/-! ### The receiver (R159 to R161) -/

theorem exec_byteReceived {s : State} {l : Link} (served : s.inService l = true) (b : Byte) :
    exec (.byteReceived l b) s = .next (s.setPort l ((s.port l).receive b)) := if_pos served

section
variable {p : Port} {b : Byte}

/-- A byte that finds no room is lost, with the frame being received (R161). -/
theorem receive_lost (full : 512 ≤ p.held) (kept : p.receiver = .hunt → b = 0xC3) : p.receive b = p.discard := by
  refine if_pos ?_
  rw [Bool.and_eq_true, decide_eq_true_iff]
  refine ⟨?_, full⟩
  by_cases h : p.receiver = .hunt
  · simp [keepsByte, kept h]
  · simp [keepsByte, h]

/-- A byte that finds room advances the receiver. -/
theorem receive_kept (room : p.held < 512) : p.receive b = p.advance b :=
  if_neg (by rw [Bool.and_eq_true, decide_eq_true_iff]; exact fun h => Nat.not_le.2 room h.2)

/-- A byte before a frame that does not start one is not kept. -/
theorem receive_hunting (hunt : p.receiver = .hunt) (other : b ≠ 0xC3) : p.receive b = p := by
  have passed : keepsByte p.receiver b = false := by
    rw [keepsByte, hunt, beq_eq_false_iff_ne.2 other]
    rfl
  rw [Port.receive, passed]
  simp only [Bool.false_and, Bool.false_eq_true, if_false, Port.advance, hunt, if_neg other]

end

/-- Settles O32: row by row of the receiver's table. -/
theorem receiverTakesBytesByItsTable : Obligations.ReceiverTakesBytesByItsTable := by
  intro l b s p goes discarded
  refine ⟨fun out => if_neg (by rw [out]; exact Bool.false_ne_true), fun served => ?_⟩
  have hexec := exec_byteReceived served b
  refine ⟨fun hunt other => ?_, fun full kept => ?_, fun room => ?_⟩
  · have same : { p with receiver := .hunt } = p := by rw [← hunt]
    show exec (.byteReceived l b) s = .next (s.setPort l { p with receiver := .hunt })
    rw [hexec, receive_hunting hunt other, same]
  · rw [show discarded = (exec (.byteReceived l b) s = .next (s.setPort l p.discard)) from rfl, hexec, receive_lost full kept]
  · have advances : exec (.byteReceived l b) s = .next (s.setPort l (p.advance b)) := by rw [hexec, receive_kept room]
    have row : ∀ {q : Port}, p.advance b = q → exec (.byteReceived l b) s = .next (s.setPort l q) := fun h =>
      h ▸ advances
    refine ⟨fun h hb => row ?_, fun h hb => row ?_, fun h hb => row ?_, fun n h => row ?_, fun n k h hn => row ?_,
      fun n k h hn => row ?_, fun n k t got h hlt => row ?_, fun n k t got h heq => row ?_, fun n k t payload h => row ?_,
      fun n k t payload high h => ⟨fun good => row ?_, fun bad => row ?_⟩⟩
    · simp only [Port.advance, h, if_pos hb]
    · simp only [Port.advance, h]
      exact if_pos hb
    · simp only [Port.advance, h]
      exact if_neg (Nat.not_le.2 hb)
    · simp only [Port.advance, h]
    · simp only [Port.advance, h, if_neg hn]
    · simp only [Port.advance, h, if_pos hn]
    · simp only [Port.advance, h, if_pos hlt]
    · simp only [Port.advance, h]
      exact if_neg heq.not_lt
    · simp only [Port.advance, h]
    · simp only [Port.advance, h, Port.checkFrame, if_pos good]
    · simp only [Port.advance, h, Port.checkFrame, if_neg bad]
      rfl

/-! ### Frames received whole (R156, R157, R159) -/

/-- A run whose first step succeeds goes on from the state after it. -/
theorem run_succ (M : Host.Core) {k : Nat} {s t : M.State} (h : M.step s = .next t) : M.run (k + 1) s = M.run k t := by
  simp only [Host.Core.run, h]

/-- The bytes of a queue of arrivals on one link, received one after the other. -/
theorem run_byteReceived (l : Link) (bytes : List Byte) : ∀ s : State, s.inService l = true →
    Host.Core.run Sys2Proof.core bytes.length (s.setPending (bytes.map (Instr.byteReceived l))) =
      .next ((s.setPending []).setPort l (bytes.foldl Port.receive (s.port l))) := by
  induction bytes with
  | nil =>
    intro s _
    show Host.Outcome.next (s.setPending []) = _
    rw [List.foldl_nil]
    cases l <;> rfl
  | cons b bytes ih =>
    intro s served
    have first : step (s.setPending ((b :: bytes).map (Instr.byteReceived l))) =
        .next ((s.setPort l ((s.port l).receive b)).setPending (bytes.map (Instr.byteReceived l))) := by
      show exec (.byteReceived l b) (s.setPending (bytes.map (Instr.byteReceived l))) = _
      rw [exec_byteReceived (by cases l <;> exact served)]
      cases l <;> rfl
    have served' : (s.setPort l ((s.port l).receive b)).inService l = true := by
      cases l <;> exact served
    have hrun : Host.Core.run Sys2Proof.core (b :: bytes).length
        (s.setPending ((b :: bytes).map (Instr.byteReceived l))) =
        Host.Core.run Sys2Proof.core bytes.length
          ((s.setPort l ((s.port l).receive b)).setPending (bytes.map (Instr.byteReceived l))) :=
      run_succ Sys2Proof.core first
    rw [hrun, ih _ served', List.foldl_cons, port_setPort_same]
    cases l <;> rfl

section
variable {p : Port}

/-- A port with its receiver in another state. -/
def Port.receiving (p : Port) (r : Receiver) : Port := { p with receiver := r }

/-- Bytes of the complete frames of a port (R161). -/
def Port.framesHeld (p : Port) : Nat := (p.frames.map frameSize).sum

theorem held_receiving (p : Port) (r : Receiver) : (p.receiving r).held = p.framesHeld + receiverHeld r := rfl

/-- A byte that finds room, by the row of the receiver's state. -/
theorem receive_receiving {r : Receiver} (b : Byte) (room : p.framesHeld + receiverHeld r < 512) :
    (p.receiving r).receive b = (p.receiving r).advance b := receive_kept room

/-- The rest of a payload, received byte by byte, completes it. -/
theorem foldl_receive_payload (n k t : Byte) (rest : List Byte) : ∀ got : List Byte, rest ≠ [] →
    got.length + rest.length = n.toNat → p.framesHeld + 4 + n.toNat ≤ 512 →
    rest.foldl Port.receive (p.receiving (.payload n k t got)) =
      p.receiving (.check n k t (got ++ rest) none) := by
  induction rest with
  | nil => exact fun _ h => absurd rfl h
  | cons b rest ih =>
    intro got _ hlen room
    rw [List.length_cons] at hlen
    rw [List.foldl_cons, receive_receiving b (by simp only [receiverHeld]; omega)]
    cases rest with
    | nil =>
      have last : ¬ got.length + 1 < n.toNat := by rw [List.length_nil] at hlen; omega
      simp only [Port.advance, Port.receiving, if_neg last, List.foldl_nil]
    | cons b' rest =>
      have more : got.length + 1 < n.toNat := by rw [List.length_cons] at hlen; omega
      have hadvance : (p.receiving (.payload n k t got)).advance b = p.receiving (.payload n k t (got ++ [b])) := by
        simp only [Port.advance, Port.receiving, if_pos more]
      rw [hadvance, ih (got ++ [b]) (List.cons_ne_nil _ _) (by rw [List.length_append, List.length_singleton]; omega) room,
        List.append_assoc]
      rfl

/-- A frame up to its payload. -/
theorem foldl_receive_head (n k t : Byte) (payload : List Byte) (hlen : n.toNat = payload.length)
    (short : payload.length ≤ 240) (room : p.framesHeld + payload.length + 6 ≤ 512) :
    (0xC3 :: n :: k :: t :: payload).foldl Port.receive (p.receiving .hunt) =
      p.receiving (.check n k t payload none) := by
  simp only [List.foldl_cons]
  have start : (p.receiving .hunt).receive 0xC3 = p.receiving .length := by
    rw [receive_receiving _ (by simp only [receiverHeld]; omega)]
    rfl
  have length : (p.receiving .length).receive n = p.receiving (.kind n) := by
    rw [receive_receiving _ (by simp only [receiverHeld]; omega)]
    exact if_pos (show n.toNat ≤ 240 by omega)
  have kind : (p.receiving (.kind n)).receive k = p.receiving (.tag n k) := by
    rw [receive_receiving _ (by simp only [receiverHeld]; omega)]
    rfl
  rw [start, length, kind, receive_receiving _ (by simp only [receiverHeld]; omega)]
  cases payload with
  | nil =>
    have hn : n = 0 := BitVec.eq_of_toNat_eq hlen
    exact if_pos hn
  | cons b payload =>
    have hn : n ≠ 0 := by
      rintro rfl
      cases hlen
    have htag : (p.receiving (.tag n k)).advance t = p.receiving (.payload n k t []) := if_neg hn
    rw [htag, foldl_receive_payload n k t _ [] (List.cons_ne_nil _ _) (by rw [hlen, List.length_nil, Nat.zero_add])
      (by omega)]
    rfl

/-- A 16-bit value is put together from its two bytes. -/
theorem byte1_append (x : BitVec 16) : byte1 (x.toNat / 256) ++ byte1 x.toNat = x := by
  apply BitVec.eq_of_toNat_eq
  have hx : x.toNat < 65536 := x.isLt
  rw [BitVec.toNat_append, byte1, byte1, BitVec.toNat_ofNat, BitVec.toNat_ofNat,
    ← Nat.shiftLeft_add_eq_or_of_lt (by omega), Nat.shiftLeft_eq]
  omega

/-- The bytes of a frame, received on a port that hunts and has room: the check of R157 is made. -/
theorem foldl_receive_frame (f : Frame) (short : f.payload.length ≤ 240)
    (room : p.framesHeld + f.payload.length + 6 ≤ 512) :
    (frameBytes f).foldl Port.receive (p.receiving .hunt) =
      (p.receiving (.check (byte1 f.payload.length) f.kind f.tag f.payload (some (byte1 (f.crc.toNat / 256))))).checkFrame
        (byte1 f.payload.length) f.kind f.tag f.payload f.crc := by
  have hlen : (byte1 f.payload.length).toNat = f.payload.length := by
    rw [byte1, BitVec.toNat_ofNat]
    omega
  have hbytes : frameBytes f = (0xC3 :: byte1 f.payload.length :: f.kind :: f.tag :: f.payload) ++
    [byte1 (f.crc.toNat / 256), byte1 f.crc.toNat] := rfl
  rw [hbytes, List.foldl_append, foldl_receive_head _ f.kind f.tag f.payload hlen short room]
  simp only [List.foldl_cons, List.foldl_nil]
  rw [receive_receiving _ (by simp [receiverHeld]; omega)]
  have high : (p.receiving (.check (byte1 f.payload.length) f.kind f.tag f.payload none)).advance
      (byte1 (f.crc.toNat / 256)) =
      p.receiving (.check (byte1 f.payload.length) f.kind f.tag f.payload (some (byte1 (f.crc.toNat / 256)))) := rfl
  rw [high, receive_receiving _ (by simp [receiverHeld]; omega)]
  show Port.checkFrame _ _ _ _ _ (byte1 (f.crc.toNat / 256) ++ byte1 f.crc.toNat) = _
  rw [byte1_append]

end

/-- Settles O33: the queue of arrivals by `run_byteReceived`, the port by `foldl_receive_frame`. -/
theorem framesAreReceivedWhole : Obligations.FramesAreReceivedWhole := by
  refine ⟨by decide +kernel, fun l s kind tag payload crc served hunt short room => ?_⟩
  intro f p received
  have hport : p.receiving .hunt = p := by rw [Port.receiving, ← hunt]
  have hheld : p.framesHeld = p.held := by
    show p.framesHeld = p.framesHeld + receiverHeld p.receiver
    rw [hunt]
    rfl
  have hsize : payload.length + 6 = (frameBytes f).length := by simp [frameBytes, bytes2, f]
  have hrun : received = .next ((s.setPending []).setPort l ((frameBytes f).foldl Port.receive p)) := by
    show Host.Core.run Sys2Proof.core (payload.length + 6) _ = _
    rw [hsize]
    exact run_byteReceived l (frameBytes f) s served
  rw [hrun, ← hport, foldl_receive_frame f short (by rw [hheld]; exact room)]
  exact ⟨fun good => congrArg (fun q => Host.Outcome.next ((s.setPending []).setPort l q)) (if_pos good),
    fun bad => congrArg (fun q => Host.Outcome.next ((s.setPending []).setPort l q)) (if_neg bad)⟩

/-! ### What leaves a port (R158, R175, R176) -/

theorem startSend_of_sending {p : Port} (h : p.sending.isSome) : Port.startSend p = p := by
  obtain ⟨f, hf⟩ := Option.isSome_iff_exists.1 h
  simp only [Port.startSend, hf]

theorem dropOldestNotice_append (before after : List Message) (oldest : Notice)
    (replies : ∀ m ∈ before, isNotice m = false) :
    dropOldestNotice (before ++ .notice oldest :: after) = before ++ after := by
  induction before with
  | nil => rfl
  | cons m before ih =>
    have hm := replies m List.mem_cons_self
    cases m with
    | notice n => cases hm
    | reply t r =>
      show Message.reply t r :: dropOldestNotice (before ++ .notice oldest :: after) = _
      rw [ih fun m h => replies m (List.mem_cons_of_mem _ h)]
      rfl

/-- Settles O34: the three events, and the notices of a port by whether it sends and how many wait. -/
theorem gapExpiryFramesSentAndNoticesLost : Obligations.GapExpiryFramesSentAndNoticesLost := by
  refine ⟨fun l s => ?_, pushNotice_free, fun p n sends => ⟨fun room => ?_, fun before after oldest queue replies full => ?_⟩⟩
  · intro p
    have sent : p.sending.isSome → exec (.frameSent l) s =
        .next (s.setPort l (Port.startSend { p with sending := none })) := fun h => if_pos h
    refine ⟨fun h => if_neg h, fun h queue => ?_, fun m rest h queue => ?_⟩
    · rw [sent h]
      simp only [Port.startSend, queue]
    · rw [sent h]
      simp only [Port.startSend, queue]
  · rw [Port.pushNotice, if_neg (show ¬ Config.noticeCapacity ≤ p.waiting from Nat.not_le.2 room)]
    exact startSend_of_sending sends
  · rw [Port.pushNotice, if_pos (show Config.noticeCapacity ≤ p.waiting from full), queue, dropOldestNotice_append before after oldest replies]
    exact startSend_of_sending sends

end Sys2Proof.Machine
end

section
/-!
SUPPORT. Zones, the charger, the audit interval, and the pattern index.
-/

namespace Sys2Proof.Machine

/-! ### The contact guard (R50, R52, R62) -/

/-- The ports after a TOUCH notice, where it is due: STATION's, and PATRON's where the zone's line lies in a pane of
PATRON and its port is in service (R62, R63). -/
def State.portsTouched (s : State) (z : ZoneId) (e : TouchEvent) : Ports :=
  if s.settings.touchNotices = true ∧ s.stage = .running then
    { s.ports with
      station := s.ports.station.pushNotice (.touch z e)
      patron :=
        if s.owns .patron (zoneLine z) = true ∧ s.ports.presence = true then s.ports.patron.pushNotice (.touch z e)
        else s.ports.patron }
  else s.ports

theorem touchNotice_eq (s : State) (z : ZoneId) (e : TouchEvent) :
    s.touchNotice z e = s.setPorts (s.portsTouched z e) := by
  by_cases h : s.settings.touchNotices = true ∧ s.stage = .running
  · have on : s.powered = true := by rw [State.powered, h.2]; rfl
    have told : s.notify .station (.touch z e) =
        s.setPorts { s.ports with station := s.ports.station.pushNotice (.touch z e) } := by
      rw [State.notify, if_pos (show s.inService .station = true from on)]
      rfl
    have due : (s.settings.touchNotices && s.stage == .running) = true := by simpa using h
    unfold State.touchNotice State.portsTouched
    dsimp only
    rw [if_pos due, if_pos h, told]
    by_cases ho : s.owns .patron (zoneLine z) = true
    · rw [if_pos (by exact ho)]
      by_cases hp : s.ports.presence = true
      · rw [if_pos ⟨ho, hp⟩, State.notify, if_pos]
        · rfl
        · simpa [State.inService, State.powered] using ⟨bne_iff_ne.1 on, hp⟩
      · rw [if_neg fun k => hp k.2, State.notify, if_neg]
        simpa [State.inService] using fun _ => hp
    · rw [if_neg (by exact ho), if_neg fun k => ho k.1]
  · have not : (s.settings.touchNotices && s.stage == .running) = false := by
      rw [← Bool.not_eq_true]
      simpa using h
    unfold State.touchNotice State.portsTouched
    rw [not, if_neg h]
    rfl

/-- A reading that changes on a zone whose sensor is read moves the zone by its table. -/
theorem readZone_moves {s : State} {z : ZoneId} {present : Bool} {move : ZoneState → Option ZoneState} {x y : ZoneState}
    (reached : s.zonesReached = true) (attached : s.lineModule (zoneLine z) ≠ .absent)
    (hz : s.zones.get z = ⟨x, !present⟩) (hm : move x = some y) :
    s.readZone z present move = .next (s.setZones (s.zones.set z ⟨y, present⟩)) := by
  unfold State.readZone
  dsimp only
  rw [if_neg (by rw [hz]; simp), if_neg (by simp [reached]), if_neg attached, hz, hm]
  rfl

/-- Settles O35: the zone's table, and the touch event with its notice. -/
theorem zoneFollowsReadingsAndArmingTimer : Obligations.ZoneFollowsReadingsAndArmingTimer := by
  refine ⟨fun z s => guarded_iff s z, fun z s reached attached => ?_⟩
  intro x goes
  have touched : x.state = .arming → exec (.armingTimerExpiry z) s =
      .next ((s.setZones (s.zones.set z ⟨.touched, x.present⟩)).setPorts (s.portsTouched z .touched)) := fun h => by
    show execArmingTimerExpiry z s = _
    unfold execArmingTimerExpiry
    dsimp only
    rw [if_pos h, touchNotice_eq]
    rfl
  refine ⟨fun h => readZone_moves reached attached h rfl, fun h => readZone_moves reached attached h rfl,
    fun h => readZone_moves reached attached h rfl, fun h => readZone_moves reached attached h rfl,
    fun h silent => ?_, fun h on running => ⟨_, touched h, rfl, ?_, ?_, rfl⟩⟩
  · have none : s.portsTouched z .touched = s.ports := if_neg fun k => silent.elim (by simp [k.1]) fun n => n k.2
    show exec (.armingTimerExpiry z) s = _
    rw [touched h, none]
    rfl
  · exact congrArg Ports.station (if_pos ⟨on, running⟩)
  · exact congrArg Ports.patron (if_pos ⟨on, running⟩)

/-! ### The charger (R85, R98 to R101) -/

theorem exec_chargerStep {s : State} (charging : s.reservoir.charger = .charging) :
    exec .chargerStep s = .next (State.compareReady (s.setReservoir ⟨s.reservoir.q + 1,
      if 512 ≤ s.reservoir.q + 1 then .full else .charging, s.reservoir.idle⟩)).settle := if_pos charging

/-- Settles O47: the step by the comparison that follows it. -/
theorem chargerStepsAndIdleExpiry : Obligations.ChargerStepsAndIdleExpiry := by
  intro s
  refine ⟨fun charging prompt => ?_, fun charging c state current ready => ?_, fun idle => if_pos idle⟩
  · intro filled
    refine ⟨fun still => ?_, fun c state current ready cool some => ?_⟩
    · rw [exec_chargerStep charging, compareReady_of_not_waiting (by exact still)]
      exact congrArg Host.Outcome.next (settle_of_no_prompt prompt)
    · have hcand : (s.setReservoir filled).hasCandidate c = true := some
      rw [exec_chargerStep charging, compareReady_of_waiting (by exact state) (by exact current) (by exact ready),
        packingPoint_of_mayDrive _ c (by exact cool) ((hasCandidate_iff _ c).1 hcand)]
      show Host.Outcome.next ((s.setReservoir filled).packOrWait c).settle = _
      rw [State.packOrWait, if_pos (by exact ready), settle_of_no_prompt (by rw [writer_fire]; exact prompt)]
  · rw [exec_chargerStep charging, compareReady_of_waiting (by exact state) (by exact current) (by exact ready)]
    exact packsFrom_packingPoint _ c

/-! ### The audit interval (R30, R117) -/

theorem auditable_iff (s : State) (l : Line) : s.auditable l = true ↔
    ¬ (s.lineModule l ≠ .ready ∨ ∃ z, zoneLine z = l ∧ s.guarded z = true) := by
  unfold State.auditable State.lineGuarded
  rw [Bool.and_eq_true, beq_iff_eq, Bool.not_eq_true', ← Bool.not_eq_true, List.any_eq_true, not_or, not_not]
  simp only [mem_zonesOf]

/-- The first line, in audit order from a position, of which a test holds. -/
theorem find?_auditOrder {start k : Line} {test : Line → Bool} (found : test (start + k) = true)
    (first : ∀ j < k, test (start + j) = false) : (auditOrder start).find? test = some (start + k) := by
  unfold auditOrder
  rw [List.find?_map, Option.map_eq_some_iff]
  refine ⟨k, ?_, rfl⟩
  rw [List.find?_eq_some_iff_getElem]
  refine ⟨found, k.val, by simp [allLines], by simp [allLines], fun j hj => ?_⟩
  have := first ⟨j, by omega⟩ hj
  simpa [allLines] using this

/-- Settles O48: the interval restarts, or the first line in audit order that is not skipped is sensed. -/
theorem auditSensesTheNextLine : Obligations.AuditSensesTheNextLine := by
  intro s interval skipped again
  have hagain : s.restartAudit = again := by
    rw [State.restartAudit, timerOf_eq]
  have running : s.engine.auditInterval.isNone = false := by
    rw [Option.isNone_eq_false_iff]
    exact interval
  have hexec : exec .auditIntervalExpiry s =
      if !s.quiet || !s.engine.returnList.isEmpty then .next again
      else
        match (auditOrder s.engine.auditPosition).find? s.auditable with
        | none => .next again
        | some l => .next ((s.setEngine
            { s.engine with auditInterval := none, auditPosition := nextLine l }).startSense .audit l) := by
    show execAuditIntervalExpiry s = _
    rw [execAuditIntervalExpiry, running, hagain]
    rfl
  refine ⟨fun busy => ?_, fun free returns => ?_⟩
  · rw [hexec, if_pos]
    rcases busy with h | h
    · rw [h]; rfl
    · cases hl : s.engine.returnList with
      | nil => exact absurd hl h
      | cons l rest => simp
  · have chooses : (!s.quiet || !s.engine.returnList.isEmpty) = false := by rw [free, returns]; rfl
    rw [chooses] at hexec
    refine ⟨fun all => ?_, fun k hk first => ⟨nextLine (s.engine.auditPosition + k), rfl, ?_⟩⟩
    · have none : (auditOrder s.engine.auditPosition).find? s.auditable = none :=
        List.find?_eq_none.2 fun l _ => mt (auditable_iff s l).1 (not_not.2 (all l))
      rw [hexec, none]
      rfl
    · rw [hexec, find?_auditOrder ((auditable_iff s _).2 hk) fun j hj => by
        rw [← Bool.not_eq_true]
        exact mt (auditable_iff s _).1 (not_not.2 (first j hj))]
      rfl

end Sys2Proof.Machine
end

section
/-!
SUPPORT. The numbering of pins and the pattern index of the neighbours (R1, R68, R69).
-/

namespace Sys2Proof.Machine

/-! ### The numbering of pins (R1) -/

theorem stripOf_eq (p : LinePin) : stripOf p = if (dotOf p).val < 6 then (dotOf p).val % 3 else 3 := by
  revert p
  decide +kernel

theorem positionOf_eq (p : LinePin) : positionOf p = 2 * (cellOf p).val +
    if (dotOf p).val = 3 ∨ (dotOf p).val = 4 ∨ (dotOf p).val = 5 ∨ (dotOf p).val = 7 then 1 else 0 := by
  revert p
  decide +kernel

theorem adjacent_iff (p q : LinePin) : adjacent p q = true ↔ stripOf p = stripOf q ∧
    (positionOf p + 1 = positionOf q ∨ positionOf q + 1 = positionOf p) := by
  simp [adjacent]

/-- The pin `k` places down the strip, or the end of the strip (R68). -/
theorem pinDown_cases (p : LinePin) (k : Nat) :
    (∃ x, pinDown p k = some x ∧ stripOf x = stripOf p ∧ (positionOf x : Int) = positionOf p - k) ∨
      (pinDown p k = none ∧ (positionOf p : Int) - k < 0) := by
  unfold pinDown positionOf stripOf
  split
  · exact .inl ⟨_, rfl, by dsimp only; omega, by dsimp only; omega⟩
  · exact .inr ⟨rfl, by omega⟩

/-- The pin `k` places up the strip, or the end of the strip (R68). -/
theorem pinUp_cases (p : LinePin) (k : Nat) :
    (∃ x, pinUp p k = some x ∧ stripOf x = stripOf p ∧ (positionOf x : Int) = positionOf p + k) ∨
      (pinUp p k = none ∧ 79 < (positionOf p : Int) + k) := by
  unfold pinUp positionOf stripOf
  split
  · exact .inl ⟨_, rfl, by dsimp only; omega, by dsimp only; omega⟩
  · exact .inr ⟨rfl, by omega⟩

/-! ### The pattern index (R68, R69) -/

/-- A neighbour's expected state, with the pins taken first (R69). -/
theorem expectedState_some (s : State) (c : Current) (taken : List LinePin) (x : LinePin) :
    s.expectedState c taken (some x) =
      if x ∈ taken ∨ (c.round.pins.get x).drivenSinceSense = true then pinState (s.target c.line) x
      else pinState (s.sensed c.line) x := by
  unfold State.expectedState
  exact if_congr (by rw [Bool.or_eq_true, List.contains_iff_mem, or_comm]) rfl rfl

/-- Settles O51: the numbering pin by pin; each of the four neighbours is a pin of the strip or off its end. -/
theorem patternIndexOfTheNeighbours : Obligations.PatternIndexOfTheNeighbours := by
  refine ⟨fun p l content => ?_, fun s c taken p l2 l1 r2 r3 => ?_⟩
  · intro cell dot
    refine ⟨stripOf_eq p, positionOf_eq p, rfl, rfl, zoneLine_pinZone l p, ?_, rfl, fun q => ⟨adjacent_iff p q, pin_ext⟩⟩
    show 2 * l.val + (cellOf p).val / 20 = _
    have hc : (cellOf p).val < 40 := (cellOf p).isLt
    split <;> omega
  · intro expected counts
    have neighbour : ∀ (o : Option LinePin) (q : Int) (n : Nat),
        (∃ x, o = some x ∧ stripOf x = stripOf p ∧ (positionOf x : Int) = q) ∨ (o = none ∧ (q < 0 ∨ 79 < q)) →
        counts q n → n = (s.expectedState c taken o).toNat := by
      rintro o q n (⟨x, rfl, strip, position⟩ | ⟨rfl, out⟩) ⟨on, off⟩
      · rw [on x strip position, boolToNat_eq_ite, expectedState_some]
      · rw [off out]
        rfl
    intro h2 h1 k2 k3
    rw [neighbour _ _ l2 ((pinDown_cases p 2).imp_right fun h => ⟨h.1, .inl h.2⟩) h2,
      neighbour _ _ l1 ((pinDown_cases p 1).imp_right fun h => ⟨h.1, .inl h.2⟩) h1,
      neighbour _ _ r2 ((pinUp_cases p 1).imp_right fun h => ⟨h.1, .inr h.2⟩) k2,
      neighbour _ _ r3 ((pinUp_cases p 2).imp_right fun h => ⟨h.1, .inr h.2⟩) k3]
    have bit : ∀ b : Bool, b.toNat ≤ 1 := Bool.toNat_le
    refine Nat.mod_eq_of_lt ?_
    have := bit (s.expectedState c taken (pinDown p 2))
    have := bit (s.expectedState c taken (pinDown p 1))
    have := bit (s.expectedState c taken (pinUp p 1))
    have := bit (s.expectedState c taken (pinUp p 2))
    omega

end Sys2Proof.Machine
end

section
/-! SUPPORT. The search of a finished line for exhausted pins. -/

namespace Sys2Proof.Machine

theorem undone_iff (s : State) (l : Line) (p : LinePin) : s.undone l p = true ↔
    pinState (s.target l) p ≠ pinState (s.sensed l) p ∧ s.faultMapped l p = false := by
  simp [State.undone, State.mismatched]

theorem exhausted_iff (s : State) (c : Current) (p : LinePin) : s.exhausted c p = true ↔
    pinState (s.target c.line) p ≠ pinState (s.sensed c.line) p ∧ s.faultMapped c.line p = false ∧
      s.guarded (pinZone c.line p) = false ∧ s.settings.retryMax + 1 ≤ (c.round.pins.get p).attempts := by
  simp [State.exhausted, undone_iff, and_assoc]

theorem mem_pinsByCell (p : LinePin) : p ∈ pinsByCell := by
  simp only [pinsByCell, List.mem_flatMap, List.mem_map, List.mem_finRange, true_and]
  exact ⟨cellOf p, dotOf p, pinAt_cellOf_dotOf p⟩

theorem pinsByCell_sorted : pinsByCell.Pairwise fun p q =>
    (cellOf p).val < (cellOf q).val ∨ (cellOf p = cellOf q ∧ (dotOf p).val < (dotOf q).val) := by
  unfold pinsByCell
  rw [List.pairwise_flatMap]
  constructor
  · intro c _
    rw [List.pairwise_map]
    exact (List.pairwise_lt_finRange 8).imp fun h => by simpa [cellOf_pinAt, dotOf_pinAt] using h
  · refine (List.pairwise_lt_finRange 40).imp fun {c e} h x hx y hy => ?_
    obtain ⟨d, _, rfl⟩ := List.mem_map.1 hx
    obtain ⟨g, _, rfl⟩ := List.mem_map.1 hy
    exact Or.inl (by simpa [cellOf_pinAt] using h)

/-- What a pin that cannot be brought to the content is called. -/
def stuckKind (target : Content) (p : LinePin) : FaultKind :=
  if pinState target p = true then .stuckLowered else .stuckRaised

/-- The fault map entry of a pin of line `l`. -/
def stuckEntry (s : State) (l : Line) (p : LinePin) : FaultEntry :=
  ⟨l, cellOf p, dotOf p, stuckKind (s.target l) p, s.engine.generation⟩

/-- The notice of a pin of line `l` joins the queue of a port. -/
def Port.pushStuck (s : State) (l : Line) (q : Port) (p : LinePin) : Port :=
  q.pushNotice (.faultRecorded l (cellOf p) (dotOf p) (stuckKind (s.target l) p))

/-- `s` with entries at the tail of the fault map, counted in the refresh `r`, and with the station port given. -/
def State.withEntries (s : State) (r : Refresh) (entries : List FaultEntry) (station : Port) : State :=
  ((s.setHealth { s.health with faultMap := s.health.faultMap ++ entries }).setEngine
    { s.engine with refresh := some { r with newFaults := r.newFaults + entries.length } }).setPorts
    { s.ports with station := station }

variable {s : State} {r : Refresh}

theorem withEntries_nil (hr : s.engine.refresh = some r) : s.withEntries r [] s.ports.station = s := by
  simp only [State.withEntries, List.append_nil, List.length_nil, Nat.add_zero]
  rw [← hr]
  rfl

theorem withEntries_append (s : State) (r : Refresh) (xs ys : List FaultEntry) (p q : Port) :
    (s.withEntries r xs p).withEntries { r with newFaults := r.newFaults + xs.length } ys q =
      s.withEntries r (xs ++ ys) q := by
  simp only [State.withEntries, List.length_append, ← Nat.add_assoc, ← List.append_assoc]
  rfl

theorem offerPin_of_room (running : s.stage = .running) (hr : s.engine.refresh = some r) (l : Line) (p : LinePin)
    (room : s.health.faultMap.length < 64) : State.offerPin l s p =
      s.withEntries r [stuckEntry s l p] (Port.pushStuck s l s.ports.station p) := by
  have served : ∀ t : State, t.stage = s.stage → t.inService .station = true := fun t ht => by
    simp [State.inService, State.powered, ht, running]
  have fits : s.health.faultMap.length < Config.faultMapCapacity := room
  unfold State.offerPin
  rw [if_pos fits]
  simp only [State.updRefresh, State.notify, State.withEntries, State.setHealth_engine, hr, Option.map_some]
  exact if_pos (served _ rfl)

theorem offerPins_of_room (running : s.stage = .running) (l : Line) (ps : List LinePin) :
    ∀ (entries : List FaultEntry) (station : Port),
    s.health.faultMap.length + entries.length + ps.length ≤ 64 →
    ps.foldl (State.offerPin l) (s.withEntries r entries station) =
      s.withEntries r (entries ++ ps.map (stuckEntry s l)) (ps.foldl (Port.pushStuck s l) station) := by
  induction ps with
  | nil => intro entries station _; simp
  | cons p ps ih =>
    intro entries station room
    rw [List.length_cons] at room
    have step := offerPin_of_room (s := s.withEntries r entries station) running rfl l p
      (by simp only [State.withEntries, State.setPorts_health, State.setEngine_health, State.setHealth_health,
            List.length_append]; omega)
    rw [List.foldl_cons, step, withEntries_append]
    have rest := ih (entries ++ [stuckEntry s l p]) (Port.pushStuck s l station p) (by simp; omega)
    rw [List.append_assoc] at rest
    exact rest

theorem offerPin_of_full (full : 64 ≤ s.health.faultMap.length) (l : Line) (p : LinePin) :
    State.offerPin l s p = s.flagBoth setFaultmapFull :=
  if_neg (show ¬ s.health.faultMap.length < Config.faultMapCapacity from Nat.not_lt.2 full)

theorem flagBoth_setFaultmapFull_twice (s : State) :
    (s.flagBoth setFaultmapFull).flagBoth setFaultmapFull = s.flagBoth setFaultmapFull := by
  cases h : s.ports.presence <;> simp [State.flagBoth, h, setFaultmapFull, State.setPorts]

theorem offerPins_of_full (l : Line) (ps : List LinePin) : ∀ s : State, 64 ≤ s.health.faultMap.length →
    ps.foldl (State.offerPin l) s = if ps = [] then s else s.flagBoth setFaultmapFull := by
  induction ps with
  | nil => intro s _; rfl
  | cons p ps ih =>
    intro s full
    rw [List.foldl_cons, offerPin_of_full full, ih (s.flagBoth setFaultmapFull) full,
      if_neg (List.cons_ne_nil p ps)]
    split
    · rfl
    · exact flagBoth_setFaultmapFull_twice s

/-- Pins offered to the fault map: those it has room for are entered, the others set FAULTMAP_FULL. -/
theorem offerPins_eq (hr : s.engine.refresh = some r) (running : s.stage = .running) (l : Line) (ps : List LinePin) :
    let entered := ps.take (64 - s.health.faultMap.length)
    let told := s.withEntries r (entered.map (stuckEntry s l)) (entered.foldl (Port.pushStuck s l) s.ports.station)
    ps.foldl (State.offerPin l) s =
      if entered.length < ps.length then told.flagBoth setFaultmapFull else told := by
  intro entered told
  have enters : entered.foldl (State.offerPin l) s = told := by
    by_cases room : s.health.faultMap.length ≤ 64
    · have h := offerPins_of_room (r := r) running l entered [] s.ports.station
        (by simp only [entered, List.length_take, List.length_nil]; omega)
      rwa [withEntries_nil hr, List.nil_append] at h
    · have none : entered = [] := by simp only [entered, Nat.sub_eq_zero_of_le (Nat.le_of_not_le room), List.take_zero]
      simp only [told, none]
      exact (withEntries_nil hr).symm
  conv_lhs => rw [← List.take_append_drop (64 - s.health.faultMap.length) ps, List.foldl_append]
  rw [show (ps.take (64 - s.health.faultMap.length)).foldl (State.offerPin l) s = told from enters]
  by_cases rest : entered.length < ps.length
  · have more : 64 - s.health.faultMap.length < ps.length := by
      simpa [entered, List.length_take] using rest
    have full : 64 ≤ told.health.faultMap.length := by
      simp [told, State.withEntries, entered, List.length_take]; omega
    rw [if_pos rest, offerPins_of_full l _ told full, if_neg (by simpa using more)]
  · have all : ps.length ≤ 64 - s.health.faultMap.length := by
      simpa [entered, List.length_take] using rest
    rw [if_neg rest, List.drop_eq_nil_of_le all, List.foldl_nil]

/-- Settles O45: the pins found exhausted are those of the map by cell and dot, and each is offered in turn. -/
theorem exhaustedPinsEnterTheFaultMap : Obligations.ExhaustedPinsEnterTheFaultMap := by
  intro s c r hr running
  obtain ⟨found, hfound⟩ : ∃ found, found = pinsByCell.filter (s.exhausted c) := ⟨_, rfl⟩
  obtain ⟨entered, hentered⟩ : ∃ entered, entered = found.take (64 - s.health.faultMap.length) := ⟨_, rfl⟩
  have search := offerPins_eq hr running c.line found
  rw [← hentered] at search
  refine ⟨found, entered, fun p => ?_, ?_, hentered, ?_⟩
  · simp [hfound, mem_pinsByCell, exhausted_iff]
  · rw [hfound]
    exact pinsByCell_sorted.filter _
  · intro kind station marked
    rw [show s.recordFaults c = found.foldl (State.offerPin c.line) s by rw [hfound]; rfl, search]
    by_cases more : entered.length < found.length
    · cases hp : s.ports.presence <;>
        simp only [State.flagBoth, State.withEntries, more, State.setPorts_ports, hp, List.length_map,
          true_and, if_true, Bool.false_eq_true, if_false] <;> rfl
    · simp only [State.withEntries, more, List.length_map, false_and, if_false]
      rfl

end Sys2Proof.Machine
end

section
/-! SUPPORT. The decision after a verify sense, and the finish of a line. -/

namespace Sys2Proof.Machine

theorem handBank_eq (s : State) (c : Current) (previous : Content) (b : BankId) : ∃ (trims : Table Int 48) (ports : Ports),
    s.handBank c previous b = (s.setHealth { s.health with trims := trims }).setPorts ports := by
  unfold State.handBank State.updateTrim
  dsimp only
  split
  · exact ⟨_, _, rfl⟩
  · exact ⟨s.health.trims.set b (trimUpdate _ _ _), s.ports, rfl⟩

theorem takeTrimLists_eq (ls : List Link) : ∀ s : State, ∃ ports : Ports,
    ls.foldl State.takeTrimList s = s.setPorts ports := by
  induction ls with
  | nil => exact fun s => ⟨s.ports, rfl⟩
  | cons l ls ih =>
    intro s
    obtain ⟨p, hp⟩ := takeTrimList_eq s l
    obtain ⟨ports, h⟩ := ih (s.setPort l p)
    refine ⟨ports, ?_⟩
    rw [List.foldl_cons, hp, h, setPort_eq_setPorts]
    rfl

/-- The trim updates of a verify write the trims and the ports alone. -/
theorem updateTrims_eq (s : State) (c : Current) (previous : Content) (between : List Link) :
    ∃ (trims : Table Int 48) (ports : Ports),
    s.updateTrims c previous between = (s.setHealth { s.health with trims := trims }).setPorts ports := by
  obtain ⟨trims, ports, first⟩ := handBank_eq s c previous (firstBank c.line)
  obtain ⟨ports', taken⟩ := takeTrimLists_eq between (s.handBank c previous (firstBank c.line))
  obtain ⟨trims', ports'', second⟩ := handBank_eq (between.foldl State.takeTrimList
    (s.handBank c previous (firstBank c.line))) c previous (secondBank c.line)
  refine ⟨trims', ports'', ?_⟩
  show State.handBank (between.foldl _ _) c previous _ = _
  rw [second, taken, first]
  rfl

theorem afterLineWork_current {s : State} {c : Current} (go : Current → State) (free : s.engine.cancelled = none)
    (current : s.engine.current = some c) : s.afterLineWork go = go c := by
  simp only [State.afterLineWork, free, current]

theorem afterLineWork_cancelled {s : State} {w : CancelWork} (go : Current → State)
    (cancelled : s.engine.cancelled = some w) : s.afterLineWork go = s.endCancel w := by
  simp only [State.afterLineWork, cancelled]

theorem exec_verifySenseComplete {s : State} {l : Line} (states : Content) (trimLists : List Link)
    (op : s.modules.operation = some (.sense .verify l)) :
    exec (.verifySenseComplete ⟨states, trimLists⟩) s = .next ((s.endSense l states).afterLineWork fun c =>
      ((s.endSense l states).updateTrims ⟨c.line, c.round.sensedNow⟩ (s.sensed l) trimLists).verifyDecision
        ⟨c.line, c.round.sensedNow⟩).settle := by
  show execVerifySenseComplete _ s = _
  simp only [execVerifySenseComplete, sensing_eq_some.2 op]

theorem verifyDecision_of_last {s : State} {c : Current} (last : s.settings.retryMax ≤ c.round.number) :
    s.verifyDecision c = ((s.recordFaults c).leaveFinished c.line).choose := by
  simp [State.verifyDecision, State.finishLine, last, Nat.not_lt.2 last]

theorem verifyDecision_of_done {s : State} {c : Current} (more : c.round.number < s.settings.retryMax)
    (done : ∀ p, s.undone c.line p = true → s.guarded (pinZone c.line p) = true) :
    s.verifyDecision c = (s.leaveFinished c.line).choose := by
  have none : (allPins.any fun p => s.undone c.line p && !s.guarded (pinZone c.line p)) = false := by
    simpa [List.any_eq_false] using fun p _ => done p
  simp [State.verifyDecision, State.finishLine, none, Nat.not_le.2 more]

theorem verifyDecision_of_open {s : State} {c : Current} (more : c.round.number < s.settings.retryMax) {p : LinePin}
    (undone : s.undone c.line p = true) (free : s.guarded (pinZone c.line p) = false) :
    s.verifyDecision c = State.andChoose (s.packingPoint ⟨c.line, c.round.next⟩) := by
  have some : (allPins.any fun p => s.undone c.line p && !s.guarded (pinZone c.line p)) = true :=
    List.any_eq_true.2 ⟨p, mem_allPins p, by simp [undone, free]⟩
  simp [State.verifyDecision, some, more]

theorem next_sensedNow (r : Round) : r.sensedNow.next =
    ⟨r.number + 1, .lower, Table.tab fun p => ⟨(r.pins.get p).attempts, false, false, false, false⟩⟩ := by
  simp [Round.next, Round.sensedNow]

theorem defersZone_iff (s : State) (l : Line) (z : ZoneId) : s.defersZone l z = true ↔
    zoneLine z = l ∧ s.guarded z = true ∧ ∃ p, pinZone l p = z ∧
      pinState (s.target l) p ≠ pinState (s.sensed l) p ∧ s.faultMapped l p = false := by
  simp [State.defersZone, mem_allPins, undone_iff, and_assoc]

theorem unsettledAt_iff (s : State) (l : Line) : s.unsettledAt l = true ↔
    ∃ p, (pinState (s.target l) p ≠ pinState (s.sensed l) p ∧ s.faultMapped l p = false) ∧
      s.defersZone l (pinZone l p) = false := by
  simp only [State.unsettledAt, List.any_eq_true, Bool.and_eq_true, Bool.not_eq_true', undone_iff, mem_allPins, true_and]
  refine exists_congr fun p => and_congr_right fun undone => ?_
  rw [← Bool.not_eq_true, ← Bool.not_eq_true, not_iff_not, defersZone_iff]
  exact ⟨fun guarded => ⟨zoneLine_pinZone l p, guarded, p, rfl, undone⟩, fun h => h.2.1⟩

theorem joins_iff (s : State) (l : Line) :
    ((zonesOf l).any fun z => s.defersZone l z && !s.engine.stale.get z) = true ↔
      ∃ z, s.defersZone l z = true ∧ s.engine.stale.get z = false := by
  simp only [List.any_eq_true, Bool.and_eq_true, Bool.not_eq_true', mem_zonesOf]
  exact exists_congr fun z => ⟨fun h => h.2, fun h => ⟨((defersZone_iff s l z).1 h.1).1, h⟩⟩

theorem startDeadline_eq (r : Refresh) (ms : Nat) : r.startDeadline ms =
    { r with deadline := if r.deadline = none ∧ r.expired = false then timerOf ms else r.deadline } := by
  obtain ⟨who, deadline, expired, done, faults, clamps, unsettled, unavailable⟩ := r
  cases deadline <;> cases expired <;> rfl

/-- Settles O44: `verifyDecision` by its three cases, and `leaveFinished` written out. -/
theorem finishedLineEntersItsSets : Obligations.FinishedLineEntersItsSets := by
  refine ⟨?_, ?_⟩
  · intro states trimLists s c op current free worked following u goesOn open_
    have goes : exec (.verifySenseComplete ⟨states, trimLists⟩) s = .next (u.verifyDecision worked).settle := by
      rw [exec_verifySenseComplete states trimLists op]
      exact congrArg (fun t : State => Host.Outcome.next t.settle) (afterLineWork_current (c := c) _ free current)
    have retries : u.settings.retryMax = s.settings.retryMax := by
      obtain ⟨trims, ports, h⟩ := updateTrims_eq (s.endSense c.line states) worked (s.sensed c.line) trimLists
      rw [show u = _ from h]
      rfl
    refine ⟨fun last => ?_, fun more closed => ?_, fun more ⟨p, wrong, new, unguarded⟩ => ?_⟩
    · rw [verifyDecision_of_last (by rw [retries]; exact last)] at goes
      exact goes
    · rw [verifyDecision_of_done (by rw [retries]; exact more) fun p undone => by
        obtain ⟨wrong, new⟩ := (undone_iff _ _ _).1 undone
        by_contra guarded
        exact closed ⟨p, wrong, new, Bool.not_eq_true _ ▸ guarded⟩] at goes
      exact goes
    · rw [verifyDecision_of_open (c := worked) (by rw [retries]; exact more) ((undone_iff _ _ _).2 ⟨wrong, new⟩) unguarded,
        show (⟨worked.line, worked.round.next⟩ : Current) = following from
          congrArg (Current.mk c.line) (next_sensedNow c.round)] at goes
      exact ⟨goes, goes ▸ packsFrom_packingPoint u following⟩
  · intro s l r hr undone waits left starts t
    have hwaits : ∀ z, waits z ↔ s.defersZone l z = true := fun z => (defersZone_iff s l z).symm
    have hleft : s.unsettledAt l = true ↔ left := by
      rw [unsettledAt_iff]
      exact exists_congr fun p => and_congr_right fun _ => by rw [hwaits, Bool.not_eq_true]
    have hjoins : ((zonesOf l).any fun z => s.defersZone l z && !s.engine.stale.get z) = true ↔
        ∃ z, waits z ∧ s.engine.stale.get z = false := by
      rw [joins_iff]
      exact exists_congr fun z => and_congr_left fun _ => (hwaits z).symm
    obtain ⟨joins, joins_eq⟩ : ∃ joins, joins = (zonesOf l).any fun z => s.defersZone l z && !s.engine.stale.get z :=
      ⟨_, rfl⟩
    rw [← joins_eq] at hjoins
    refine ⟨Table.tab fun z => if zoneLine z = l then s.defersZone l z else s.engine.stale.get z,
      s.writer.lastUnsettled.set l (s.unsettledAt l), r.unsettled.set l (s.unsettledAt l),
      (if joins = true then r.startDeadline s.settings.deferMs else r).deadline, fun z => ?_, ?_, fun k hk => ?_,
      ?_, fun k hk => ?_, fun go => ?_, fun stay => ?_, ?_⟩
    · rw [hwaits, Table.get_tab]
      by_cases hz : zoneLine z = l
      · simp [hz]
      · have : s.defersZone l z = false := by
          rw [← Bool.not_eq_true, defersZone_iff]
          exact fun h => hz h.1
        simp [hz, this]
    · rw [Table.get_set_same, hleft]
    · exact Table.get_set_other _ _ (Ne.symm hk)
    · rw [Table.get_set_same, hleft]
    · exact Table.get_set_other _ _ (Ne.symm hk)
    · obtain ⟨some, deadline, expired, defer⟩ := go
      rw [if_pos (hjoins.2 some), startDeadline_eq]
      simp [deadline, expired, timerOf, defer]
    · split
      · rename_i hj
        rw [startDeadline_eq]
        by_cases h : r.deadline = none ∧ r.expired = false
        · have zero : s.settings.deferMs = 0 := by
            by_contra pos
            exact stay ⟨hjoins.1 hj, h.1, h.2, Nat.pos_of_ne_zero pos⟩
          simp [h, zero, timerOf]
        · simp [h]
      · rfl
    · show s.leaveFinished l = _
      simp only [State.leaveFinished, hr, ← joins_eq, State.setWriter_engine, Option.map_some]
      cases joins
      · rfl
      · simp only [if_true, startDeadline_eq]

end Sys2Proof.Machine
end

section
/-! SUPPORT. A module that changes its state. -/

namespace Sys2Proof.Machine

open Host (Outcome)

theorem moduleChanged_eq (s : State) (m : ModuleId) (x : ModuleState) :
    s.moduleChanged m x = s.setPorts (s.portsTold m x) := by
  rw [← ports_moduleChanged]
  unfold State.moduleChanged
  split
  · rw [notify_eq, setPort_eq_setPorts]
    rfl
  · rfl

theorem clearModuleFresh_eq (s : State) (m : ModuleId) : ∃ fresh : LineSet,
    (∀ l, fresh.get l = (s.page.fresh.get l && moduleOf l != m)) ∧
    s.clearModuleFresh m = s.setPage { s.page with fresh := fresh } := by
  have fold : ∀ (ls : List Line) (t : State), ∃ fresh : LineSet,
      ls.foldl State.clearFresh t = t.setPage { t.page with fresh := fresh } := by
    intro ls
    induction ls with
    | nil => exact fun t => ⟨t.page.fresh, rfl⟩
    | cons l ls ih =>
      intro t
      obtain ⟨fresh, h⟩ := ih (t.clearFresh l)
      exact ⟨fresh, h⟩
  obtain ⟨fresh, h⟩ := fold (linesOf m) s
  refine ⟨fresh, fun l => ?_, h⟩
  rw [← fresh_clearModuleFresh, show s.clearModuleFresh m = _ from h]
  rfl

/-- What a module's entering FAULTED writes. -/
theorem enterFaulted_eq (s : State) (m : ModuleId) : s.enterFaulted m =
    (((s.setPorts (s.portsTold m .faulted)).setEngine (s.enterFaulted m).engine).setPage
      { s.page with fresh := (s.enterFaulted m).page.fresh }).setModules
      { s.modules with
        records := s.modules.records.set m { s.modules.records.get m with state := .faulted, selfTest := none } } := by
  obtain ⟨fresh, _, h⟩ := clearModuleFresh_eq
    (s.putModule m { s.modules.records.get m with state := .faulted, selfTest := none }) m
  unfold State.enterFaulted
  dsimp only
  rw [h, moduleChanged_eq]
  rfl

/-- What a module's entering STARTING writes. -/
theorem enterStarting_eq (s : State) (m : ModuleId) (reading : Int) : s.enterStarting m reading =
    (((s.setPorts (s.portsTold m .starting)).setEngine (s.enterStarting m reading).engine).setPage
      { s.page with fresh := (s.enterStarting m reading).page.fresh }).setModules
      { s.modules with records := s.modules.records.set m ⟨.starting, some reading, some 50⟩ } := by
  obtain ⟨fresh, _, h⟩ := clearModuleFresh_eq (s.putModule m ⟨.starting, some reading, some Config.selfTestMs⟩) m
  unfold State.enterStarting
  dsimp only
  rw [h, moduleChanged_eq]
  rfl

theorem afterReading_eq (st : ModuleState) (reading : Int) : afterReading st reading =
    if st = .ready ∧ 85 ≤ reading then .hot else if st = .hot ∧ reading ≤ 75 then .ready else st := by
  cases st <;> simp [afterReading, Config.hotAt, Config.coolAt] <;> rfl

theorem beside_moduleHot (s : State) (m : ModuleId) : SameBesideEngine s (s.moduleHot m) ∧
    (s.moduleHot m).page.sensed = s.page.sensed ∧ (s.moduleHot m).stage = s.stage := by
  unfold State.moduleHot
  split
  · rename_i c _
    split
    · obtain ⟨fresh, _, h⟩ := suspend_eq s c
      have run := EngineRun.choose (s.suspend c) (Workable.all _)
      refine ⟨(SameBesideEngine.suspend s c).trans (SameBesideEngine.choose _), (EngineRun.sensed run).trans ?_,
        (EngineRun.stage run).trans ?_⟩ <;> rw [h] <;> rfl
    · exact ⟨SameBesideEngine.refl s, rfl, rfl⟩
  · exact ⟨SameBesideEngine.refl s, rfl, rfl⟩

theorem engineRun_moduleCooled (s : State) : EngineRun (fun _ => True) s s.moduleCooled := by
  unfold State.moduleCooled
  split
  · exact EngineRun.choose _ (Workable.all _)
  · exact .refl

/-- The state after a reading that has changed the module, before what follows. -/
theorem exec_temperatureReading {s : State} {m : ModuleId} {reading : Int} {new : ModuleState}
    (attached : s.moduleState m ≠ .absent) (hnew : afterReading (s.moduleState m) reading = new) :
    (new = s.moduleState m → exec (.temperatureReading m reading) s = .next (s.setModules { s.modules with
      records := s.modules.records.set m ⟨new, some reading, (s.modules.records.get m).selfTest⟩ })) ∧
    (new ≠ s.moduleState m → ∀ told : State, told = (s.setModules { s.modules with
        records := s.modules.records.set m ⟨new, some reading, (s.modules.records.get m).selfTest⟩ }).setPorts
        (s.portsTold m new) →
      exec (.temperatureReading m reading) s =
        .next (if new = .hot then told.moduleHot m else told.moduleCooled).settle) := by
  subst hnew
  have off : ¬ (s.modules.records.get m).state = .absent := attached
  refine ⟨fun same => ?_, fun moved told htold => ?_⟩
  · show execTemperatureReading m reading s = _
    unfold execTemperatureReading
    dsimp only
    rw [if_neg off]
    exact if_pos same
  · show execTemperatureReading m reading s = _
    unfold execTemperatureReading
    dsimp only
    rw [if_neg off]
    refine (if_neg moved).trans ?_
    rw [moduleChanged_eq, htold]
    split
    · rename_i hot
      exact congrArg (fun t : State => Outcome.next t.settle) (if_pos hot).symm
    · rename_i cooled
      exact congrArg (fun t : State => Outcome.next t.settle) (if_neg cooled).symm

theorem choose_of_first {s : State} {before after : List Line} {l : Line} (returns : s.engine.returnList = [])
    (queue : s.engine.queue = before ++ l :: after) (first : ∀ k ∈ before, s.lineModule k ≠ .ready)
    (ready : s.lineModule l = .ready) (stale : s.page.fresh.get l = false) :
    s.choose = (s.setEngine { s.engine with state := .sensing, current := some ⟨l, startRound⟩ }).setModules
      { s.modules with operation := some (.sense .pre l) } := by
  rw [choose_of_nextReady s l returns (nextReady_of_first queue ready first)]
  have : s.fresh l = false := stale
  simp only [State.takeLine, this, Bool.false_eq_true, if_false]
  rfl

/-- Settles O38: the reading is held and compared; only a change of state has anything follow it. -/
theorem temperatureMovesTheModule : Obligations.TemperatureMovesTheModule := by
  intro m reading s attached old new goes waits
  have hnew : afterReading (s.moduleState m) reading = new := afterReading_eq _ _
  obtain ⟨same, moved⟩ := exec_temperatureReading attached hnew
  refine ⟨?_, ?_⟩
  · by_cases h : new = old.state
    · exact ⟨_, same h, rfl, fun _ => ⟨rfl, rfl⟩, rfl, rfl, rfl, rfl, rfl, rfl, rfl⟩
    · obtain ⟨told, htold⟩ : ∃ told : State, told = (s.setModules { s.modules with
          records := s.modules.records.set m ⟨new, some reading, old.selfTest⟩ }).setPorts (s.portsTold m new) :=
        ⟨_, rfl⟩
      obtain ⟨beside, sensed, stage⟩ : SameBesideEngine told (if new = .hot then told.moduleHot m else told.moduleCooled) ∧
          (if new = .hot then told.moduleHot m else told.moduleCooled).page.sensed = told.page.sensed ∧
          (if new = .hot then told.moduleHot m else told.moduleCooled).stage = told.stage := by
        split
        · exact beside_moduleHot told m
        · have run := engineRun_moduleCooled told
          exact ⟨EngineRun.same run, EngineRun.sensed run, EngineRun.stage run⟩
      have settles := EngineRun.settle _ (Workable.all (if new = .hot then told.moduleHot m else told.moduleCooled))
      have kept := beside.trans (EngineRun.same settles)
      refine ⟨_, moved h told htold, kept.records.trans (htold ▸ rfl), fun h' => absurd h' h,
        ((EngineRun.sensed settles).trans sensed).trans (htold ▸ rfl), kept.panes.trans (htold ▸ rfl),
        kept.zones.trans (htold ▸ rfl), kept.settings.trans (htold ▸ rfl), kept.store.trans (htold ▸ rfl),
        kept.trims.trans (htold ▸ rfl), ((EngineRun.stage settles).trans stage).trans (htold ▸ rfl)⟩
  · intro change told
    have goesOn := moved change told rfl
    refine ⟨fun hot stays => ?_, fun hot c current charging here => ?_, fun ready rest => ?_, fun ready held => ?_⟩
    · rw [if_pos hot] at goesOn
      have none : told.moduleHot m = told := by
        unfold State.moduleHot
        split
        · rename_i c current
          exact if_neg fun h => stays ⟨c, current, h⟩
        · rfl
      rwa [none] at goesOn
    · rw [if_pos hot] at goesOn
      obtain ⟨fresh, hfresh, hs⟩ := suspend_eq told c
      have waited : told.moduleHot m = (told.suspend c).choose := by
        unfold State.moduleHot
        rw [show told.engine.current = some c from current]
        exact if_pos ⟨charging, here⟩
      rw [waited, hs] at goesOn
      exact ⟨fresh, hfresh, goesOn⟩
    · rw [if_neg (by rw [ready]; decide)] at goesOn
      have none : told.moduleCooled = told := if_neg rest
      rwa [none] at goesOn
    · rw [if_neg (by rw [ready]; decide)] at goesOn
      have chosen : told.moduleCooled = told.choose := if_pos held
      rw [chosen] at goesOn
      refine ⟨goesOn, fun before ln after queue returns first first' fresh prompt => ?_⟩
      have taken := choose_of_first (s := told) returns queue first first' fresh
      rw [taken, settle_of_no_prompt (by exact prompt)] at goesOn
      exact goesOn

end Sys2Proof.Machine
end

section
/-! SUPPORT. What the engine's acts after an event leave: no line comes into the queue but in service. -/

namespace Sys2Proof.Machine

/-- What the engine's acts after an event keep, and which lines they may bring into the lists. -/
structure Aftermath (s t : State) : Prop where
  same : SameBesideEngine s t
  sensed : t.page.sensed = s.page.sensed
  fresh : t.page.fresh = s.page.fresh
  charge : t.reservoir.q ≤ s.reservoir.q
  queue : ∀ l ∈ t.engine.queue, l ∈ s.engine.queue ∨ s.lineInService l = true
  returns : ∀ l ∈ t.engine.returnList, l ∈ s.engine.returnList

theorem SameBesideEngine.lineInService {s t : State} (h : SameBesideEngine s t) : t.lineInService = s.lineInService := by
  unfold State.lineInService State.lineModule State.moduleState
  rw [h.records]

theorem Aftermath.refl (s : State) : Aftermath s s :=
  ⟨.refl s, rfl, rfl, Nat.le_refl _, fun _ => Or.inl, fun _ h => h⟩

theorem Aftermath.trans {s t u : State} (h : Aftermath s t) (k : Aftermath t u) : Aftermath s u where
  same := h.same.trans k.same
  sensed := k.sensed.trans h.sensed
  fresh := k.fresh.trans h.fresh
  charge := Nat.le_trans k.charge h.charge
  queue l hl := (k.queue l hl).elim (h.queue l) fun hs => Or.inr (h.same.lineInService ▸ hs)
  returns l hl := h.returns l (k.returns l hl)

theorem EngineMove.charge {W : Line → Prop} {s t : State} (h : EngineMove W s t) : t.reservoir.q ≤ s.reservoir.q := by
  cases h with
  | opens =>
    show (if s.reservoir.charger = .off then 0 else s.reservoir.q) ≤ _
    split
    · exact Nat.zero_le _
    · exact Nat.le_refl _
  | draws c _ _ => exact Nat.sub_le _ _
  | notice => rw [setPort_reservoir]
  | _ => exact Nat.le_refl _

theorem EngineRun.charge {W : Line → Prop} {s t : State} (h : EngineRun W s t) : t.reservoir.q ≤ s.reservoir.q :=
  h.keeps (P := fun t => t.reservoir.q ≤ s.reservoir.q) (fun _ _ hm hs => Nat.le_trans hm.charge hs) (Nat.le_refl _)

theorem EngineRun.aftermath {W : Line → Prop} {s t : State} (h : EngineRun W s t) : Aftermath s t where
  same := EngineRun.same h
  sensed := EngineRun.sensed h
  fresh := EngineRun.fresh h
  charge := EngineRun.charge h
  queue l hl := ((EngineRun.shift h).queue l hl).imp_right And.right
  returns _ hl := (EngineRun.shift h).returns ▸ hl

theorem Aftermath.settle {s t : State} (h : Aftermath s t) : Aftermath s t.settle :=
  h.trans (EngineRun.settle t (Workable.all t)).aftermath

theorem Aftermath.kick (s : State) : Aftermath s s.kick := (EngineRun.kick s (Workable.all s)).aftermath

/-- The lines of a module have left the board's work. -/
structure LinesGone (m : ModuleId) (t : State) : Prop where
  fresh : ∀ l, moduleOf l = m → t.page.fresh.get l = false
  queue : ∀ l, moduleOf l = m → l ∉ t.engine.queue
  returns : ∀ l, moduleOf l = m → l ∉ t.engine.returnList

theorem LinesLeave.gone {s u : State} {m : ModuleId} (h : LinesLeave s m u) : LinesGone m u where
  fresh _ hl := by rw [h.fresh]; simp [hl]
  queue _ hl := by rw [h.engine]; simp [hl]
  returns _ hl := by rw [h.engine]; simp [hl]

/-- Lines of a module out of service that have left do not come back. -/
theorem LinesGone.after {u t : State} {m : ModuleId} (h : LinesGone m u) (a : Aftermath u t)
    (out : ∀ l, moduleOf l = m → u.lineInService l = false) : LinesGone m t where
  fresh l hl := by rw [a.fresh, h.fresh l hl]
  queue l hl hq := (a.queue l hq).elim (h.queue l hl) fun hs => by rw [out l hl] at hs; cases hs
  returns l hl hr := h.returns l hl (a.returns l hr)

theorem lineInService_of_records {s : State} {m : ModuleId} {x : ModuleRecord} {records : Table ModuleRecord 8}
    (h : s.modules.records = records.set m x) {l : Line} (hl : moduleOf l = m) :
    s.lineInService l = inServiceState x.state := by
  simp [State.lineInService, State.lineModule, State.moduleState, h, hl]

/-- The blocks that a write of the ports, the engine, the page and the modules leaves. -/
structure OtherBlocks (s u : State) : Prop where
  stage : u.stage = s.stage
  panes : u.panes = s.panes
  zones : u.zones = s.zones
  settings : u.settings = s.settings
  store : u.store = s.store
  health : u.health = s.health
  reservoir : u.reservoir = s.reservoir
  writer : u.writer = s.writer

theorem otherBlocks_of_eq {s u : State} {ports : Ports} {engine : Engine} {page : PageStore} {modules : ModuleInterface}
    (h : u = (((s.setPorts ports).setEngine engine).setPage page).setModules modules) : OtherBlocks s u := by
  subst h
  exact ⟨rfl, rfl, rfl, rfl, rfl, rfl, rfl, rfl⟩

/-! ### MODULE_RESET -/

theorem serveModuleReset_eq {s : State} {f : Frame} {number : Byte} {m : ModuleId} (l : Link) (reading : Int)
    (hp : f.payload = [number]) (hm : number.toNat = m.val) : serveModuleReset l reading s f =
      if s.moduleState m = .absent then .error .outOfRange
      else if s.moduleBusy m then .error .busy
      else .ok ((s.sendReply l f.tag (.moduleReset m .starting)).enterStarting m reading).kick.settle := by
  have : moduleOfByte number = some m := by simp [moduleOfByte, hm]
  simp only [serveModuleReset, hp, this]

theorem moduleState_popFrame (s : State) (l : Link) (m : ModuleId) : (s.popFrame l).moduleState m = s.moduleState m := by
  cases l <;> rfl

theorem moduleBusy_popFrame (s : State) (l : Link) (m : ModuleId) : (s.popFrame l).moduleBusy m = s.moduleBusy m := by
  cases l <;> rfl

/-- Settles O27: the checks in order; then the lines leave and the engine chooses, if it may. -/
theorem moduleResetStartsTheModule : Obligations.ModuleResetStartsTheModule := by
  intro f s number reading hp htake refused
  have turned : ∀ {why : Reason}, serveModuleReset .station reading (s.popFrame .station) f = .error why → refused why :=
    fun h => take_of_refused (serve := serveModuleReset .station reading) htake h
  refine ⟨fun high => ?_, fun m => ?_, fun m hm => ⟨fun absent => ?_, fun attached busy => ?_, fun attached free => ?_⟩⟩
  · have none : moduleOfByte number = none := dif_neg (by omega)
    exact turned (by simp only [serveModuleReset, hp, none])
  · rw [moduleBusy_iff]
    constructor
    · rintro ⟨op, hop, rfl⟩
      cases op with
      | stroke r => exact Or.inl ⟨r, hop, rfl⟩
      | sense k ln => exact Or.inr ⟨k, ln, hop, rfl⟩
    · rintro (⟨r, hop, h⟩ | ⟨k, ln, hop, h⟩)
      · exact ⟨_, hop, h⟩
      · exact ⟨_, hop, h⟩
  · refine turned ?_
    rw [serveModuleReset_eq .station reading hp hm, moduleState_popFrame, if_pos absent]
  · refine turned ?_
    rw [serveModuleReset_eq .station reading hp hm, moduleState_popFrame, moduleBusy_popFrame, if_neg attached,
      if_pos busy]
  · obtain ⟨u, hu⟩ : ∃ u, u = (s.answered .station f (.moduleReset m .starting)).enterStarting m reading := ⟨_, rfl⟩
    have goes : exec (.moduleReset .station reading) s = .next u.kick.settle := by
      refine take_of_served (serve := serveModuleReset .station reading) htake ?_
      rw [serveModuleReset_eq .station reading hp hm, moduleState_popFrame, moduleBusy_popFrame, if_neg attached,
        if_neg (by simp [free]), hu]
      rfl
    have written := enterStarting_eq (s.answered .station f (.moduleReset m .starting)) m reading
    have leaves := linesLeave_enterStarting (s.answered .station f (.moduleReset m .starting)) m reading
    rw [← hu] at written leaves
    have hports : u.ports = (s.answered .station f (.moduleReset m .starting)).portsTold m .starting :=
      congrArg State.ports written
    have onlyWrites : u = (((s.setPorts u.ports).setEngine u.engine).setPage
        { s.page with fresh := u.page.fresh }).setModules
        { s.modules with records := s.modules.records.set m ⟨.starting, some reading, some 50⟩ } := by
      rw [hports]
      exact written
    obtain ⟨stage, panes, zones, settings, store, health, -, -⟩ := otherBlocks_of_eq onlyWrites
    have records := congrArg (fun v : State => v.modules.records) onlyWrites
    have sensed := congrArg (fun v : State => v.page.sensed) onlyWrites
    have runs : EngineRun (fun _ => True) u u.kick.settle :=
      Relation.ReflTransGen.trans (EngineRun.kick u (Workable.all u)) (EngineRun.settle _ (Workable.all _))
    have after := EngineRun.aftermath runs
    have gone := leaves.gone.after after fun l hl => lineInService_of_records records hl
    have run : BlockRun (s.answered .station f (.moduleReset m .starting)) u.kick.settle :=
      Relation.ReflTransGen.trans (hu ▸ BlockRun.enterStarting _ m reading) (EngineRun.block runs)
    exact ⟨_, goes, after.same.records.trans records, fun l hl => ⟨gone.fresh l hl, gone.queue l hl, gone.returns l hl⟩,
      (BlockRun.port run .station).carries _ _ (carries_answered s .station f _),
      after.sensed.trans sensed, after.same.panes.trans panes, after.same.zones.trans zones,
      after.same.settings.trans settings, after.same.store.trans store,
      after.same.trims.trans (congrArg Health.trims health), (EngineRun.stage runs).trans stage,
      u, ⟨leaves.engine, leaves.closed, leaves.unavailable, leaves.fresh⟩, goes ▸ choosesFrom_kick u, hports, onlyWrites⟩

end Sys2Proof.Machine
end

section
/-! SUPPORT. A module that goes FAULTED, and what follows the operation that it ends. -/

namespace Sys2Proof.Machine

open Host (Outcome)

/-! ### What an event goes on with -/

theorem blankLines_eq (ls : List Line) : ∀ s : State, ∃ staging target sensed : Image,
    (∀ l, staging.get l = if l ∈ ls then Table.fill 0 else s.staging l) ∧
    (∀ l, target.get l = if l ∈ ls then Table.fill 0 else s.target l) ∧
    (∀ l, sensed.get l = if l ∈ ls then Table.fill 0 else s.sensed l) ∧
    s.blankLines ls = s.setPage { s.page with staging := staging, target := target, sensed := sensed } := by
  induction ls with
  | nil => exact fun s => ⟨s.page.staging, s.page.target, s.page.sensed, fun _ => rfl, fun _ => rfl, fun _ => rfl, rfl⟩
  | cons k ls ih =>
    intro s
    obtain ⟨staging, target, sensed, hs, ht, hn, he⟩ := ih (s.blankLine k)
    have entry : ∀ (t : Image) (l : Line), (if l ∈ ls then Table.fill 0 else (t.set k blankContent).get l) =
        if l ∈ k :: ls then Table.fill 0 else t.get l := by
      intro t l
      rw [Table.get_set]
      by_cases hl : l = k
      · subst hl
        simp [blankContent]
      · simp [hl, Ne.symm hl]
    exact ⟨staging, target, sensed, fun l => (hs l).trans (entry _ l), fun l => (ht l).trans (entry _ l),
      fun l => (hn l).trans (entry _ l), he⟩

theorem aftermath_setPage (s : State) (staging target : Image) :
    Aftermath s (s.setPage { s.page with staging := staging, target := target }) :=
  ⟨.setPage s _, rfl, rfl, Nat.le_refl _, fun _ => Or.inl, fun _ h => h⟩

theorem aftermath_openRefresh (s : State) (who : Requesters) {ls : List Line} (once : ls.Nodup) :
    Aftermath s (s.openRefresh who ls) := by
  obtain ⟨unavailable, _, h⟩ := openRefresh_eq s who once
  refine ⟨.openRefresh s who ls, by rw [h]; rfl, by rw [h]; rfl, ?_, fun l hl => ?_, by rw [h]; exact fun _ h => h⟩
  · rw [h]
    show (if s.reservoir.charger = .off then 0 else s.reservoir.q) ≤ _
    split
    · exact Nat.zero_le _
    · exact Nat.le_refl _
  · rw [h] at hl
    rcases List.mem_append.1 hl with hl | hl
    · exact Or.inl hl
    · exact Or.inr (by simp only [List.mem_filter, Bool.and_eq_true] at hl; exact hl.2.1)

theorem aftermath_completeSweep (s : State) : Aftermath s s.completeSweep := by
  have runs : Aftermath s (s.setStage .running) :=
    ⟨.setStage s _, rfl, rfl, Nat.le_refl _, fun _ => Or.inl, fun _ h => h⟩
  unfold State.completeSweep
  dsimp only
  split
  · obtain ⟨staging, target, _, _, h⟩ := foldl_setBoth (fun sensed l => sensed.get l) s.sweptLines (s.setStage .running)
    have held : s.sweptLines.foldl (fun s l => s.setBoth l (s.sensed l)) (s.setStage .running) = _ := h
    rw [held]
    exact (runs.trans (aftermath_setPage _ staging target)).trans (EngineRun.goIdle (W := fun _ => True) _).aftermath
  · obtain ⟨staging, target, _, _, h⟩ := foldl_setBoth (fun _ _ => blankContent) s.sweptLines (s.setStage .running)
    rw [h]
    exact ((runs.trans (aftermath_setPage _ staging target)).trans (aftermath_openRefresh _ _
      (((List.nodup_finRange 24).filter _).filter _))).trans (Aftermath.kick _)

theorem aftermath_continueSweep (s : State) : Aftermath s s.continueSweep := by
  unfold State.continueSweep
  split
  · exact .refl s
  · split
    · exact ⟨(SameBesideEngine.setEngine s _).trans (.startSense _ _ _), rfl, rfl, Nat.le_refl _, fun _ => Or.inl,
        fun _ h => h⟩
    · split
      · exact aftermath_completeSweep s
      · exact .refl s

/-- The state in which the work of a CANCEL has ended, before the engine goes on. -/
def State.cancelOver (s : State) (w : CancelWork) : State :=
  let t := if w.copyDue then s.putTarget w.line (s.sensed w.line) else s
  t.setEngine { t.engine with cancelled := none }

theorem endCancel_eq (s : State) (w : CancelWork) : s.endCancel w =
    if (s.cancelOver w).engine.queue = [] then (s.cancelOver w).closeDecision (some w.canceller)
    else (s.cancelOver w).choose := rfl

theorem aftermath_cancelOver (s : State) (w : CancelWork) : Aftermath s (s.cancelOver w) := by
  have ended : ∀ t : State, Aftermath t (t.setEngine { t.engine with cancelled := none }) := fun t =>
    ⟨.setEngine t _, rfl, rfl, Nat.le_refl _, fun _ => Or.inl, fun _ h => h⟩
  have copies : Aftermath s (if w.copyDue then s.putTarget w.line (s.sensed w.line) else s) := by
    split
    · exact aftermath_setPage s s.page.staging _
    · exact .refl s
  exact copies.trans (ended _)

theorem engineRun_endCancel (s : State) (w : CancelWork) : EngineRun (fun _ => True) (s.cancelOver w) (s.endCancel w) := by
  rw [endCancel_eq]
  split
  · exact EngineRun.closeDecision _ _
  · exact EngineRun.choose _ (Workable.all _)

theorem aftermath_endCancel (s : State) (w : CancelWork) : Aftermath s (s.endCancel w) :=
  (aftermath_cancelOver s w).trans (engineRun_endCancel s w).aftermath

theorem aftermath_continueReturn (s : State) : Aftermath s s.continueReturn := by
  unfold State.continueReturn
  split
  · exact (EngineRun.startReturn (W := fun _ => True) s).aftermath
  · split
    · exact (EngineRun.choose s (Workable.all s)).aftermath
    · exact (EngineRun.goIdle (W := fun _ => True) s).aftermath

theorem aftermath_leaveAudit (s : State) : Aftermath s s.leaveAudit := by
  unfold State.leaveAudit
  split
  · exact (EngineRun.choose s (Workable.all s)).aftermath
  · exact (EngineRun.goIdle (W := fun _ => True) s).aftermath

/-- After an audit sense the audit interval starts only where no refresh is open; a return sense that waits is made
first (R30, R117). -/
theorem resumesFrom_leaveAudit (s : State) : ResumesFrom (.next s.leaveAudit.settle) (s.setEngine
    { s.engine with auditInterval :=
      if s.engine.refresh.isSome then s.engine.auditInterval
      else if s.settings.auditMs = 0 then none else some s.settings.auditMs }) := by
  cases hr : s.engine.refresh with
  | none =>
    have goes : s.leaveAudit = s.goIdle := by simp [State.leaveAudit, hr]
    rw [goes]
    refine ⟨fun l rest returns => ?_, fun _ opened => ?_, fun returns _ => ?_⟩
    · have waits : s.engine.returnList = l :: rest := returns
      simp only [State.goIdle, State.startReturn, waits, timerOf_eq]
      rfl
    · simp [hr] at opened
    · have empty : s.engine.returnList = [] := returns
      rw [goIdle_of_empty empty]
      rfl
  | some r =>
    have goes : s.leaveAudit = s.choose := by simp [State.leaveAudit, hr]
    have same : s.setEngine { s.engine with auditInterval :=
        if (some r).isSome then s.engine.auditInterval
        else if s.settings.auditMs = 0 then none else some s.settings.auditMs } = s := rfl
    rw [goes, ← hr]
    rw [← hr] at same
    rw [same]
    refine ⟨fun l rest returns => ?_, fun _ _ => rfl, fun _ closed => ?_⟩
    · rw [choose_of_returns returns]
      rfl
    · rw [hr] at closed
      cases closed

/-! ### The completion of a stroke -/

theorem assumeDriven_eq (s : State) (r : Stroke) : ∃ sensed : Image,
    s.assumeDriven r = s.setPage { s.page with sensed := sensed } ∧
    (s.settings.verify = true → sensed = s.page.sensed) ∧
    (s.settings.verify = false → ∀ l p, pinState (sensed.get l) p =
      if l = r.line ∧ ∃ k ∈ r.pins, k.pin = p then decide (r.direction = .raise) else pinState (s.sensed l) p) := by
  cases hv : s.settings.verify with
  | true => exact ⟨s.page.sensed, by simp [State.assumeDriven, hv]; rfl, fun _ => rfl, fun h => nomatch h⟩
  | false =>
    have toward : phaseTarget r.direction = decide (r.direction = .raise) := by cases r.direction <;> rfl
    refine ⟨_, by simp only [State.assumeDriven, hv, Bool.false_eq_true, if_false]; rfl, (fun h => nomatch h), fun _ l p => ?_⟩
    rw [Table.get_set]
    by_cases hl : r.line = l
    · subst hl
      simp only [if_true, pinState_contentOf, toward, true_and, List.any_eq_true, beq_iff_eq]
    · simp only [if_neg hl, if_neg fun h : l = r.line ∧ _ => hl h.1.symm]
      rfl

end Sys2Proof.Machine
end

section
/-! SUPPORT. The reports and failed sense passes by which a module goes FAULTED. -/

namespace Sys2Proof.Machine

open Host (Outcome)

/-- `u` is `s` with the operation in flight ended, the sensed image given, and the module FAULTED. -/
structure FaultedOf (s : State) (m : ModuleId) (sensed : Image) (u : State) : Prop where
  leaves : LinesLeave s m u
  ports : u.ports = s.portsTold m .faulted
  writes : u = (((s.setPorts u.ports).setEngine u.engine).setPage
    { s.page with sensed := sensed, fresh := u.page.fresh }).setModules
    { s.modules with
      records := s.modules.records.set m { s.modules.records.get m with state := .faulted, selfTest := none }
      operation := none }

theorem faultedOf_enterFaulted (s : State) (m : ModuleId) (sensed : Image) :
    FaultedOf s m sensed (((s.setPage { s.page with sensed := sensed }).setOperation none).enterFaulted m) := by
  have leaves := linesLeave_enterFaulted ((s.setPage { s.page with sensed := sensed }).setOperation none) m
  have written := enterFaulted_eq ((s.setPage { s.page with sensed := sensed }).setOperation none) m
  refine ⟨⟨leaves.engine, leaves.closed, leaves.unavailable, leaves.fresh⟩, congrArg State.ports written, ?_⟩
  rw [show State.ports _ = _ from congrArg State.ports written]
  exact written

/-- What the board has left of a FAULTED module once the event is over. -/
structure FaultedLeft (s : State) (m : ModuleId) (t : State) : Prop where
  records : t.modules.records = s.modules.records.set m
    { s.modules.records.get m with state := .faulted, selfTest := none }
  gone : LinesGone m t
  charge : t.reservoir.q ≤ s.reservoir.q
  panes : t.panes = s.panes
  zones : t.zones = s.zones
  settings : t.settings = s.settings
  store : t.store = s.store
  trims : t.health.trims = s.health.trims

variable {s u t : State} {m : ModuleId} {sensed : Image}

theorem FaultedOf.records (h : FaultedOf s m sensed u) : u.modules.records = s.modules.records.set m
    { s.modules.records.get m with state := .faulted, selfTest := none } := congrArg (fun v : State => v.modules.records) h.writes

theorem FaultedOf.sensed_eq (h : FaultedOf s m sensed u) : u.page.sensed = sensed :=
  congrArg (fun v : State => v.page.sensed) h.writes

theorem FaultedOf.out (h : FaultedOf s m sensed u) (l : Line) (hl : moduleOf l = m) : u.lineInService l = false :=
  lineInService_of_records h.records hl

theorem FaultedOf.self (h : FaultedOf s m sensed u) : FaultedLeft s m u := by
  obtain ⟨-, panes, zones, settings, store, health, reservoir, -⟩ := otherBlocks_of_eq h.writes
  exact ⟨h.records, h.leaves.gone, Nat.le_of_eq (congrArg Reservoir.q reservoir), panes, zones, settings, store,
    congrArg Health.trims health⟩

theorem FaultedLeft.after (h : FaultedLeft s m u) (a : Aftermath u t) : FaultedLeft s m t where
  records := a.same.records.trans h.records
  gone := h.gone.after a fun _ hl => lineInService_of_records h.records hl
  charge := Nat.le_trans a.charge h.charge
  panes := a.same.panes.trans h.panes
  zones := a.same.zones.trans h.zones
  settings := a.same.settings.trans h.settings
  store := a.same.store.trans h.store
  trims := a.same.trims.trans h.trims

/-! ### The module reports a fault of its stroke -/

/-- After the report: the end of the work of a CANCEL, or the engine's choice. -/
theorem exec_moduleFaultReport {r : Stroke} (op : s.modules.operation = some (.stroke r)) (cause : DriveFault)
    (first : Bool) : ∃ (u : State) (sensed : Image), FaultedOf s r.module sensed u ∧
    (first = false ∨ s.settings.verify = true → sensed = s.page.sensed) ∧
    (first = true → s.settings.verify = false → ∀ l p, pinState (sensed.get l) p =
      if l = r.line ∧ ∃ k ∈ r.pins, k.pin = p then decide (r.direction = .raise) else pinState (s.sensed l) p) ∧
    (s.engine.cancelled = none → exec (.moduleFaultReport r.module cause first) s = .next u.kick.settle) ∧
    ∀ w, s.engine.cancelled = some w →
      exec (.moduleFaultReport r.module cause first) s = .next (u.endCancel w).settle := by
  have flight : s.strokeInFlight = some r := strokeInFlight_eq_some.2 op
  obtain ⟨sensed, driven, kept, toward⟩ := assumeDriven_eq s r
  obtain ⟨image, himage, same, moved⟩ : ∃ image : Image, (if first then s.assumeDriven r else s) =
      s.setPage { s.page with sensed := image } ∧ (first = false ∨ s.settings.verify = true → image = s.page.sensed) ∧
      (first = true → image = sensed) := by
    cases first with
    | false => exact ⟨s.page.sensed, rfl, fun _ => rfl, fun h => nomatch h⟩
    | true => exact ⟨sensed, driven, fun h => kept (h.resolve_left (fun h => nomatch h)), fun _ => rfl⟩
  have faulted := faultedOf_enterFaulted s r.module image
  refine ⟨_, image, faulted, same, fun hf hv => moved hf ▸ toward hv, fun free => ?_, fun w cancelled => ?_⟩
  · show execModuleFaultReport r.module cause first s = _
    have none := (congrArg Engine.cancelled faulted.leaves.engine).trans free
    simp only [execModuleFaultReport, flight, if_true, himage, none]
  · show execModuleFaultReport r.module cause first s = _
    have some := (congrArg Engine.cancelled faulted.leaves.engine).trans cancelled
    simp only [execModuleFaultReport, flight, if_true, himage, some]

/-! ### A sense pass fails -/

theorem exec_sensePassFailed {k : SenseKind} {l : Line} (op : s.modules.operation = some (.sense k l)) :
    exec .sensePassFailed s =
      .next (((s.setOperation none).enterFaulted (moduleOf l)).afterFailedSense k (moduleOf l)).settle := by
  show execSensePassFailed s = _
  simp only [execSensePassFailed, op]

theorem afterFailedSense_of_lineWork {k : SenseKind} (kind : k = .pre ∨ k = .verify ∨ k = .cancel) :
    (s.engine.cancelled = none → s.afterFailedSense k m = s.kick) ∧
    ∀ w, s.engine.cancelled = some w → s.afterFailedSense k m = s.endCancel w := by
  rcases kind with rfl | rfl | rfl <;>
    exact ⟨fun h => by simp only [State.afterFailedSense, h], fun w h => by simp only [State.afterFailedSense, h]⟩

theorem aftermath_afterFailedSense (s : State) {k : SenseKind} (kind : k ≠ .sweep) (m : ModuleId) :
    Aftermath s (s.afterFailedSense k m) := by
  have lineWork : k = .pre ∨ k = .verify ∨ k = .cancel → Aftermath s (s.afterFailedSense k m) := fun work => by
    obtain ⟨kicks, ends⟩ := afterFailedSense_of_lineWork (s := s) (m := m) work
    cases h : s.engine.cancelled with
    | none => exact kicks h ▸ Aftermath.kick s
    | some w => exact ends w h ▸ aftermath_endCancel s w
  cases k with
  | sweep => exact absurd rfl kind
  | audit => exact aftermath_leaveAudit s
  | pre => exact lineWork (Or.inl rfl)
  | verify => exact lineWork (Or.inr (Or.inl rfl))
  | cancel => exact lineWork (Or.inr (Or.inr rfl))
  | _ => exact aftermath_continueReturn s

theorem sweepFaulted_eq (s : State) (m : ModuleId) : ∃ (waiting : LineSet) (staging target sensed : Image),
    (∀ l, waiting.get l = true ↔ s.engine.sweepWaiting.get l = true ∧ moduleOf l ≠ m) ∧
    (∀ l, staging.get l = if moduleOf l = m then Table.fill 0 else s.staging l) ∧
    (∀ l, target.get l = if moduleOf l = m then Table.fill 0 else s.target l) ∧
    (∀ l, sensed.get l = if moduleOf l = m then Table.fill 0 else s.sensed l) ∧
    s.sweepFaulted m = (s.setEngine { s.engine with sweepWaiting := waiting }).setPage
      { s.page with staging := staging, target := target, sensed := sensed } := by
  obtain ⟨staging, target, sensed, hs, ht, hn, he⟩ := blankLines_eq (linesOf m) (s.setEngine
    { s.engine with sweepWaiting := Table.tab fun l => s.engine.sweepWaiting.get l && moduleOf l != m })
  simp only [mem_linesOf] at hs ht hn
  exact ⟨_, staging, target, sensed, fun l => by simp, hs, ht, hn, he⟩

/-- Settles O39: the module is FAULTED and its lines have left; then what followed the operation follows. -/
theorem faultedModuleLeavesService : Obligations.FaultedModuleLeavesService := by
  intro s left faulted driven goesOn
  have leaves : ∀ {m t}, FaultedLeft s m t → left m t := fun h =>
    ⟨h.records, fun l hl => ⟨h.gone.fresh l hl, h.gone.queue l hl, h.gone.returns l hl⟩, h.charge, h.panes, h.zones,
      h.settings, h.store, h.trims⟩
  have reported : ∀ (r : Stroke) (cause : DriveFault) (first : Bool), s.modules.operation = some (.stroke r) →
      ∃ (u t : State), goesOn (exec (.moduleFaultReport r.module cause first) s) u ∧
        FaultedOf s r.module u.page.sensed u ∧ exec (.moduleFaultReport r.module cause first) s = .next t ∧ Aftermath u t ∧
        (first = false ∨ s.settings.verify = true → u.page.sensed = s.page.sensed) ∧
        (first = true → s.settings.verify = false → driven r u) := by
    intro r cause first op
    obtain ⟨u, sensed, hu, same, toward, none, some⟩ := exec_moduleFaultReport op cause first
    have hsensed := hu.sensed_eq
    subst hsensed
    cases hc : s.engine.cancelled with
    | none =>
      exact ⟨u, _, ⟨fun _ => none hc ▸ choosesFrom_kick u, fun w hw => by rw [hc] at hw; cases hw⟩, hu, none hc,
        (Aftermath.kick u).settle, same, toward⟩
    | some w =>
      refine ⟨u, _, ⟨fun h => (by rw [hc] at h; cases h), fun v hv => ?_⟩, hu, some w hc,
        (aftermath_endCancel u w).settle, same, toward⟩
      rw [hc] at hv
      cases hv
      exact some w hc ▸ cancelEndsFrom_endCancel u w
  have failed : ∀ (k : SenseKind) (ln : Line), FaultedOf s (moduleOf ln) s.page.sensed
      ((s.setOperation none).enterFaulted (moduleOf ln)) := fun k ln => faultedOf_enterFaulted s (moduleOf ln) s.page.sensed
  refine ⟨fun r cause first op => ?_, fun k ln op => ?_, fun r cause op => ?_, fun r cause op => ?_, fun k ln op => ?_⟩
  · obtain ⟨u, t, goes, hu, -, -, same, toward⟩ := reported r cause first op
    exact ⟨u, goes, ⟨hu.leaves, hu.ports, hu.writes⟩, same, toward⟩
  · obtain ⟨u, hdef⟩ : ∃ u, u = (s.setOperation none).enterFaulted (moduleOf ln) := ⟨_, rfl⟩
    have goes := exec_sensePassFailed op
    have hu := failed k ln
    rw [← hdef] at goes hu
    have hcancelled : u.engine.cancelled = s.engine.cancelled :=
      (congrArg Engine.cancelled hu.leaves.engine).trans rfl
    refine ⟨u, ⟨hu.leaves, hu.ports, hu.writes⟩, ?_, fun kind => ⟨fun free => ?_, fun w cancelled => ?_⟩, ?_, ?_⟩
    · rintro rfl
      obtain ⟨waiting, staging, target, sensed, hw, hs, ht, hn, he⟩ := sweepFaulted_eq u (moduleOf ln)
      have waits := congrArg Engine.sweepWaiting hu.leaves.engine
      have page := congrArg State.page hu.writes
      refine ⟨waiting, staging, target, sensed, fun l => (hw l).trans (by rw [waits]), fun l => (hs l).trans ?_,
        fun l => (ht l).trans ?_, fun l => (hn l).trans ?_, ?_⟩
      · unfold State.staging; rw [page]; rfl
      · unfold State.target; rw [page]; rfl
      · unfold State.sensed; rw [page]; rfl
      · rw [goes, ← he]
        exact sweepGoesOn_continueSweep _
    · rw [(afterFailedSense_of_lineWork kind).1 (hcancelled.trans free)] at goes
      exact goes ▸ choosesFrom_kick u
    · rw [(afterFailedSense_of_lineWork kind).2 w (hcancelled.trans cancelled)] at goes
      exact goes ▸ cancelEndsFrom_endCancel u w
    · rintro rfl
      exact goes ▸ resumesFrom_continueReturn u
    · rintro rfl
      have opened : u.engine.refresh.isSome = s.engine.refresh.isSome := by
        cases hr : s.engine.refresh with
        | none => rw [hu.leaves.closed hr]
        | some r =>
          obtain ⟨lost, h, -⟩ := hu.leaves.unavailable r hr
          rw [h]
          rfl
      have resumes := resumesFrom_leaveAudit u
      rw [opened, hu.self.settings] at resumes
      exact goes ▸ resumes
  · obtain ⟨u, t, -, hu, goes, after, same, -⟩ := reported r cause false op
    exact ⟨t, goes, leaves (hu.self.after after), after.sensed.trans (same (Or.inl rfl))⟩
  · obtain ⟨u, t, -, hu, goes, after, same, toward⟩ := reported r cause true op
    refine ⟨t, goes, leaves (hu.self.after after), fun hv => after.sensed.trans (same (Or.inr hv)), fun hv ln p => ?_⟩
    rw [← toward rfl hv ln p]
    exact congrArg (fun image : Image => pinState (image.get ln) p) after.sensed
  · obtain ⟨u, hdef⟩ : ∃ u, u = (s.setOperation none).enterFaulted (moduleOf ln) := ⟨_, rfl⟩
    have goes := exec_sensePassFailed op
    have hu := failed k ln
    rw [← hdef] at goes hu
    by_cases kind : k = .sweep
    · subst kind
      obtain ⟨waiting, staging, target, sensed, -, -, -, hn, he⟩ := sweepFaulted_eq u (moduleOf ln)
      have hself := hu.self
      have swept : FaultedLeft s (moduleOf ln) (u.sweepFaulted (moduleOf ln)) := by
        rw [he]
        exact ⟨hself.records, ⟨hself.gone.fresh, hself.gone.queue, hself.gone.returns⟩, hself.charge, hself.panes,
          hself.zones, hself.settings, hself.store, hself.trims⟩
      have after : Aftermath (u.sweepFaulted (moduleOf ln)) _ := (aftermath_continueSweep _).settle
      refine ⟨_, goes, leaves (swept.after after), fun l => ?_⟩
      have hsensed := congrArg (fun image : Image => image.get l) after.sensed
      refine hsensed.trans ?_
      rw [he]
      refine (hn l).trans ?_
      have hu' : u.sensed l = s.sensed l := congrArg (fun image : Image => image.get l) hu.sensed_eq
      rw [hu']
      simp [blankContent]
    · have after := (aftermath_afterFailedSense u kind (moduleOf ln)).settle
      refine ⟨_, goes, leaves (hu.self.after after), fun l => ?_⟩
      have hsensed := congrArg (fun image : Image => image.get l) (after.sensed.trans hu.sensed_eq)
      rw [if_neg fun h => kind h.1]
      exact hsensed

end Sys2Proof.Machine
end

section
/-! SUPPORT. How each kind of sense pass goes on. -/

namespace Sys2Proof.Machine

open Host (Outcome)

variable {s : State} {l : Line} {states : Content}

theorem exec_sweepSenseComplete (op : s.modules.operation = some (.sense .sweep l)) :
    exec (.sweepSenseComplete states) s = .next (s.endSense l states).continueSweep.settle := by
  show execSweepSenseComplete states s = _
  simp only [execSweepSenseComplete, sensing_eq_some.2 op]

theorem exec_preSenseComplete (op : s.modules.operation = some (.sense .pre l)) :
    exec (.preSenseComplete states) s = .next ((s.endSense l states).afterLineWork fun c =>
      State.andChoose ((s.endSense l states).packingPoint ⟨c.line, startRound⟩)).settle := by
  show execPreSenseComplete states s = _
  simp only [execPreSenseComplete, sensing_eq_some.2 op]

theorem exec_cancelSenseComplete (op : s.modules.operation = some (.sense .cancel l)) :
    exec (.cancelSenseComplete states) s =
      .next ((s.endSense l states).afterLineWork fun _ => (s.endSense l states).kick).settle := by
  show execCancelSenseComplete states s = _
  simp only [execCancelSenseComplete, sensing_eq_some.2 op]

theorem exec_auditSenseComplete (op : s.modules.operation = some (.sense .audit l)) :
    exec (.auditSenseComplete states) s = .next ((s.endSense l states).catchUndone l).leaveAudit.settle := by
  show execAuditSenseComplete states s = _
  simp only [execAuditSenseComplete, sensing_eq_some.2 op]

theorem exec_returnSenseComplete (op : s.modules.operation = some (.sense .return l)) :
    exec (.returnSenseComplete states) s =
      .next (((s.endSense l states).dropReturn l).catchUndone l).continueReturn.settle := by
  show execReturnSenseComplete states s = _
  simp only [execReturnSenseComplete, sensing_eq_some.2 op]

/-- The end of an operation on a line that a CANCEL took is the end of the CANCEL's work. -/
theorem cancelEndsFrom_afterLineWork {w : CancelWork} (go : Current → State) (cancelled : s.engine.cancelled = some w) :
    CancelEndsFrom (.next (s.afterLineWork go).settle) s w := by
  rw [afterLineWork_cancelled go cancelled]
  exact cancelEndsFrom_endCancel s w

theorem lineUndone_iff (s : State) (l : Line) : s.lineUndone l = true ↔
    ∃ p, pinState (s.target l) p ≠ pinState (s.sensed l) p ∧ s.faultMapped l p = false := by
  simp [State.lineUndone, mem_allPins, undone_iff]

theorem catchUndone_cases (s : State) (l : Line) :
    (s.lineUndone l = true → CatchesUp s [l] (s.catchUndone l)) ∧ (s.lineUndone l = false → s.catchUndone l = s) := by
  unfold State.catchUndone
  refine ⟨fun h => ?_, fun h => ?_⟩
  · rw [if_pos h]
    exact catchesUp_catchUp s [l] (List.nodup_singleton l)
  · rw [if_neg (by simp [h])]

theorem beside_catchUndone (s : State) (l : Line) : SameBesideEngine s (s.catchUndone l) := by
  unfold State.catchUndone
  split
  · exact SameBesideEngine.catchUp s _
  · exact .refl s

theorem CatchesUp.returnList {ls : List Line} {u : State} (h : CatchesUp s ls u) :
    u.engine.returnList = s.engine.returnList := by
  cases hr : s.engine.refresh with
  | some r =>
    obtain ⟨_, _, rfl⟩ := h.joins r hr
    rfl
  | none =>
    by_cases some : ∃ l ∈ ls, s.lineInService l = true
    · obtain ⟨_, _, rfl⟩ := h.opens hr some
      rfl
    · rw [h.nothing hr fun l hl => by simpa using fun hs => some ⟨l, hl, hs⟩]

theorem returnList_catchUndone (s : State) (l : Line) : (s.catchUndone l).engine.returnList = s.engine.returnList := by
  obtain ⟨undone, none⟩ := catchUndone_cases s l
  cases h : s.lineUndone l with
  | true => exact (undone h).returnList
  | false => rw [none h]

theorem returnList_continueReturn (s : State) : s.continueReturn.engine.returnList = s.engine.returnList := by
  unfold State.continueReturn
  split
  · exact (EngineRun.shift (EngineRun.startReturn (W := fun _ => True) s)).returns
  · split
    · exact (EngineRun.shift (EngineRun.choose s (Workable.all s))).returns
    · exact (EngineRun.shift (EngineRun.goIdle (W := fun _ => True) s)).returns

/-- A line a CANCEL took, once its work has ended and the event is over. -/
theorem settle_endCancel (s : State) (w : CancelWork) (other : s.owns .localWriter w.line = false) :
    (s.endCancel w).settle.engine.cancelled = none ∧
    (s.endCancel w).settle.target w.line = if w.copyDue then s.sensed w.line else s.target w.line := by
  have run : EngineRun (fun _ => True) (s.cancelOver w) (s.endCancel w).settle :=
    Relation.ReflTransGen.trans (engineRun_endCancel s w) (EngineRun.settle _ (Workable.all _))
  have ended : (s.cancelOver w).engine.cancelled = none := rfl
  refine ⟨?_, ?_⟩
  · rcases (EngineRun.shift run).cancelled with h | ⟨v, h, -⟩
    · exact h.trans ended
    · rw [ended] at h
      cases h
  · have owns : (s.cancelOver w).owns .localWriter w.line = false := by
      rw [← other]
      unfold State.cancelOver
      cases w.copyDue <;> rfl
    rw [(EngineRun.images run w.line owns).2]
    unfold State.cancelOver
    cases w.copyDue with
    | true => exact Table.get_set_same _ _ _
    | false => rfl

/-- Settles O41: each completion writes its line and goes on as its kind says. -/
theorem sensePassesGoOnByTheirKind : Obligations.SensePassesGoOnByTheirKind := by
  intro ln states s sensing after
  have sweeps : sensing .sweep → SweepGoesOn (exec (.sweepSenseComplete states) s) after := fun op => by
    rw [exec_sweepSenseComplete op]
    exact sweepGoesOn_continueSweep after
  have packs : sensing .pre → s.engine.cancelled = none → ∀ c, s.engine.current = some c →
      PacksFrom (exec (.preSenseComplete states) s) after ⟨c.line, startRound⟩ := fun op free c current => by
    rw [exec_preSenseComplete op, afterLineWork_current (s := s.endSense ln states) (c := c) _ free current]
    exact packsFrom_packingPoint after ⟨c.line, startRound⟩
  have free : after.quiet = true := rfl
  refine ⟨rfl, fun op prompt next waits least => ?_, sweeps, packs, fun op prompt free c current ready candidate low => ?_,
    fun op w cancelled line other => ?_, fun op w cancelled => ?_, fun op w cancelled => ?_,
    fun op w trimLists cancelled => ?_, fun op => ?_, fun op => ?_, ?_, fun op prompt closed returns done => ?_, fun op => ?_⟩
  · have goes := (sweeps op).senses free next waits least
    rw [settle_of_no_prompt (by exact prompt)] at goes
    exact ⟨_, goes, rfl, Table.get_set_same _ _ _, rfl, rfl⟩
  · have goes := ((packs op free c current).packs ready ((hasCandidate_iff _ _).1 candidate)).waits low
    rw [settle_of_no_prompt (by exact prompt)] at goes
    exact goes
  · subst line
    obtain ⟨ended, target⟩ := settle_endCancel after w other
    have goes := exec_cancelSenseComplete (states := states) op
    rw [afterLineWork_cancelled (s := s.endSense w.line states) _ cancelled] at goes
    refine ⟨_, goes, ended, target.trans ?_⟩
    rw [show after.sensed w.line = states from Table.get_set_same _ _ _]
    rfl
  · rw [exec_cancelSenseComplete op]
    exact cancelEndsFrom_afterLineWork (s := s.endSense ln states) _ cancelled
  · rw [exec_preSenseComplete op]
    exact cancelEndsFrom_afterLineWork (s := s.endSense ln states) _ cancelled
  · rw [exec_verifySenseComplete states trimLists op]
    exact cancelEndsFrom_afterLineWork (s := s.endSense ln states) _ cancelled
  · obtain ⟨undone, none⟩ := catchUndone_cases after ln
    refine ⟨after.catchUndone ln, undone, none, ?_⟩
    have resumes := resumesFrom_leaveAudit (after.catchUndone ln)
    rw [(beside_catchUndone after ln).settings] at resumes
    rw [exec_auditSenseComplete op]
    exact resumes
  · obtain ⟨undone, none⟩ := catchUndone_cases (after.dropReturn ln) ln
    have drops : after.dropReturn ln = after.setEngine
        { s.engine with returnList := s.engine.returnList.filter (· ≠ ln) } := by
      have same : (fun l : Line => l != ln) = fun l => decide (l ≠ ln) := by
        funext l
        by_cases h : l = ln <;> simp [h]
      unfold State.dropReturn
      rw [same]
      rfl
    rw [drops] at undone none
    refine ⟨_, undone, none, ?_⟩
    rw [exec_returnSenseComplete op, ← drops]
    exact resumesFrom_continueReturn _
  · rw [lineUndone_iff]
    have hs : after.sensed ln = states := Table.get_set_same _ _ _
    rw [hs]
    rfl
  · have goes := exec_auditSenseComplete (states := states) op
    rw [(catchUndone_cases after ln).2 done] at goes
    have idles : after.leaveAudit = after.goIdle := by
      unfold State.leaveAudit
      rw [show after.engine.refresh = none from closed]
      rfl
    rw [idles, goIdle_of_empty (by exact returns), settle_of_no_prompt (by exact prompt)] at goes
    exact goes
  · refine ⟨_, exec_returnSenseComplete op, ?_⟩
    have list : (((s.endSense ln states).dropReturn ln).catchUndone ln).continueReturn.settle.engine.returnList =
        s.engine.returnList.filter (· != ln) := by
      rw [(EngineRun.shift (EngineRun.settle _ (Workable.all _))).returns, returnList_continueReturn,
        returnList_catchUndone]
      rfl
    rw [list]
    refine ⟨by simp, fun l hl => by simp [hl]⟩

end Sys2Proof.Machine
end

section
/-! SUPPORT. The completion of a stroke, and what a sense pass leaves written. -/

namespace Sys2Proof.Machine

open Host (Outcome)

variable {s t u : State}

/-- A content is known by the states of its pins. -/
theorem content_ext {a b : Content} (h : ∀ p, pinState a p = pinState b p) : a = b := by
  apply Table.ext_get
  intro c
  apply BitVec.eq_of_getLsbD_eq
  intro i hi
  simpa [pinState, cellOf_pinAt, dotOf_pinAt] using h (pinAt c ⟨i, hi⟩)

/-- What work on a line keeps: the blocks beside the engine, the sensed image and the stage. -/
structure WorkKept (s t : State) : Prop where
  same : SameBesideEngine s t
  sensed : t.page.sensed = s.page.sensed
  stage : t.stage = s.stage

theorem WorkKept.refl (s : State) : WorkKept s s := ⟨.refl s, rfl, rfl⟩

theorem WorkKept.trans (h : WorkKept s t) (k : WorkKept t u) : WorkKept s u :=
  ⟨h.same.trans k.same, k.sensed.trans h.sensed, k.stage.trans h.stage⟩

theorem EngineRun.workKept {W : Line → Prop} (h : EngineRun W s t) : WorkKept s t :=
  ⟨EngineRun.same h, EngineRun.sensed h, EngineRun.stage h⟩

theorem workKept_settle (s : State) : WorkKept s s.settle := (EngineRun.settle s (Workable.all s)).workKept

theorem workKept_kick (s : State) : WorkKept s s.kick := (EngineRun.kick s (Workable.all s)).workKept

theorem workKept_suspend (s : State) (c : Current) : WorkKept s (s.suspend c) := by
  obtain ⟨fresh, _, h⟩ := suspend_eq s c
  exact ⟨SameBesideEngine.suspend s c, by rw [h]; rfl, by rw [h]; rfl⟩

theorem workKept_packingPoint (s : State) (c : Current) : WorkKept s (State.andChoose (s.packingPoint c)) := by
  by_cases hot : s.lineModule c.line = .hot
  · rw [packingPoint_of_hot hot]
    exact (workKept_suspend s c).trans (EngineRun.choose _ (Workable.all _)).workKept
  · exact (EngineRun.andChoose s (EngineRun.packingPoint s c trivial hot) (Workable.all s)).workKept

theorem workKept_endCancel (s : State) (w : CancelWork) : WorkKept s (s.endCancel w) := by
  refine WorkKept.trans ⟨(aftermath_cancelOver s w).same, (aftermath_cancelOver s w).sensed, ?_⟩
    (engineRun_endCancel s w).workKept
  unfold State.cancelOver
  cases w.copyDue <;> rfl

/-- The board after a stroke, before what follows it. -/
def State.strokeOver (s : State) (r : Stroke) : State := (s.assumeDriven r).setOperation none

theorem exec_strokeComplete {r : Stroke} (op : s.modules.operation = some (.stroke r)) :
    (∀ w, (s.strokeOver r).engine.cancelled = some w →
      exec .strokeComplete s = .next ((s.strokeOver r).cancelledStroke w).settle) ∧
    (∀ c, (s.strokeOver r).engine.cancelled = none → (s.strokeOver r).engine.current = some c →
      exec .strokeComplete s = .next (State.andChoose ((s.strokeOver r).packingPoint c)).settle) ∧
    ((s.strokeOver r).engine.cancelled = none → (s.strokeOver r).engine.current = none →
      exec .strokeComplete s = .next (s.strokeOver r).kick.settle) := by
  have flight : s.strokeInFlight = some r := strokeInFlight_eq_some.2 op
  have unfolds : ∀ o, execStrokeComplete s = o → exec .strokeComplete s = o := fun _ h => h
  unfold State.strokeOver
  refine ⟨fun w h => unfolds _ ?_, fun c h hc => unfolds _ ?_, fun h hc => unfolds _ ?_⟩
  · simp only [execStrokeComplete, flight, h]
  · simp only [execStrokeComplete, flight, h, hc]
  · simp only [execStrokeComplete, flight, h, hc]

/-- The completion of a stroke answers a state that keeps what the stroke's end has written. -/
theorem exists_strokeComplete {r : Stroke} (op : s.modules.operation = some (.stroke r)) :
    ∃ t, exec .strokeComplete s = .next t ∧ WorkKept (s.strokeOver r) t := by
  obtain ⟨takes, packs, kicks⟩ := exec_strokeComplete op
  cases cancelled : (s.strokeOver r).engine.cancelled with
  | some w =>
    refine ⟨_, takes w cancelled, WorkKept.trans ?_ (workKept_settle _)⟩
    unfold State.cancelledStroke
    split
    · exact ⟨SameBesideEngine.startSense _ _ _, rfl, rfl⟩
    · exact workKept_endCancel _ w
  | none =>
    cases current : (s.strokeOver r).engine.current with
    | some c => exact ⟨_, packs c cancelled current, (workKept_packingPoint _ c).trans (workKept_settle _)⟩
    | none => exact ⟨_, kicks cancelled current, (workKept_kick _).trans (workKept_settle _)⟩

/-- Settles O43: the packing point is PacksFrom's, and the stroke's end writes what `assumeDriven` does. -/
theorem strokeCompletionAndPackingPoint : Obligations.StrokeCompletionAndPackingPoint := by
  refine ⟨packsFrom_packingPoint, fun s r op => ?_⟩
  obtain ⟨takes, packs, -⟩ := exec_strokeComplete op
  obtain ⟨t, goes, kept⟩ := exists_strokeComplete op
  obtain ⟨sensed, written, same, toward⟩ := assumeDriven_eq s r
  have stroke : s.strokeOver r = (s.setPage { s.page with sensed := sensed }).setModules
      { s.modules with operation := none } := by
    unfold State.strokeOver
    rw [written]
    rfl
  rw [stroke] at takes packs kept
  have image : t.page.sensed = sensed := kept.sensed
  have content : ∀ l, t.sensed l = sensed.get l := fun l => congrArg (fun image : Image => image.get l) image
  refine ⟨fun free c current => ⟨sensed, same, toward, ?_⟩, t, goes, fun verify => image.trans (same verify),
    fun assumed => ⟨fun p => ?_, fun ln other => ?_⟩, fun w cancelled verify prompt => ?_,
    fun w cancelled verify other => ?_, kept.stage, ?_⟩
  · rw [packs c free current]
    exact packsFrom_packingPoint _ c
  · rw [content, toward assumed]
    simp
  · rw [content]
    refine (content_ext fun p => ?_ : sensed.get ln = s.sensed ln)
    rw [toward assumed, if_neg fun h => other h.1]
  · have senses := takes w cancelled
    rw [goes] at senses
    simp only [State.cancelledStroke, verify, if_true] at senses
    rw [settle_of_no_prompt (by exact prompt)] at senses
    cases senses
    exact ⟨rfl, rfl, cancelled, rfl⟩
  · have ends := takes w cancelled
    rw [goes] at ends
    simp only [State.cancelledStroke, verify, Bool.false_eq_true, if_false] at ends
    obtain ⟨ended, target⟩ := settle_endCancel ((s.setPage { s.page with sensed := sensed }).setModules
      { s.modules with operation := none }) w other
    cases ends
    refine ⟨ended, target.trans ?_⟩
    rw [content]
    rfl
  · obtain ⟨pending, panes, zones, settings, store, records, present, trims, presence, resetWait⟩ := kept.same
    exact ⟨pending, panes, zones, settings, store, records, present, trims, presence, resetWait⟩

end Sys2Proof.Machine
end

section
/-! SUPPORT. The flags and contents that a sense pass writes stand when its event is over. -/

namespace Sys2Proof.Machine

open Host (Outcome)

variable {s t u : State} {l : Line} {states : Content}

/-- What follows a sense pass of line `l` leaves what the pass has written. -/
structure PassStands (l : Line) (s t : State) : Prop where
  kept : WorkKept s t
  fresh : t.page.fresh.get l = true

theorem Aftermath.stands (h : Aftermath s t) (stage : t.stage = s.stage) (fresh : s.page.fresh.get l = true) :
    PassStands l s t := ⟨⟨h.same, h.sensed, stage⟩, h.fresh ▸ fresh⟩

theorem EngineRun.stands {W : Line → Prop} (h : EngineRun W s t) (fresh : s.page.fresh.get l = true) :
    PassStands l s t := (EngineRun.aftermath h).stands (EngineRun.stage h) fresh

theorem PassStands.trans (h : PassStands l s t) (k : PassStands l t u) : PassStands l s u := ⟨h.kept.trans k.kept, k.fresh⟩

theorem PassStands.settle (h : PassStands l s t) : PassStands l s t.settle :=
  h.trans (EngineRun.stands (EngineRun.settle t (Workable.all t)) h.fresh)

theorem passStands_endCancel (w : CancelWork) (fresh : s.page.fresh.get l = true) : PassStands l s (s.endCancel w) :=
  (aftermath_endCancel s w).stands (workKept_endCancel s w).stage fresh

theorem passStands_kick (fresh : s.page.fresh.get l = true) : PassStands l s s.kick :=
  EngineRun.stands (EngineRun.kick s (Workable.all s)) fresh

/-- A packing point clears the fresh flag of no line on which no stroke has been fired since its sense pass. -/
theorem passStands_packingPoint (c : Current) (fresh : s.page.fresh.get l = true) (unstruck : s.page.struck.get l = false) :
    PassStands l s (State.andChoose (s.packingPoint c)) := by
  by_cases hot : s.lineModule c.line = .hot
  · rw [packingPoint_of_hot hot]
    obtain ⟨flags, hflags, h⟩ := suspend_eq s c
    have suspended : PassStands l s (s.suspend c) := by
      refine ⟨workKept_suspend s c, ?_⟩
      rw [h]
      exact (hflags l).2 ⟨fresh, fun struck => by rw [unstruck] at struck; cases struck.2⟩
    exact suspended.trans (EngineRun.stands (EngineRun.choose _ (Workable.all _)) suspended.fresh)
  · exact EngineRun.stands (EngineRun.andChoose s (EngineRun.packingPoint s c trivial hot) (Workable.all s)) fresh

theorem passStands_afterLineWork {go : Current → State} (fresh : s.page.fresh.get l = true)
    (goes : ∀ c, PassStands l s (go c)) : PassStands l s (s.afterLineWork go) := by
  unfold State.afterLineWork
  split
  · exact passStands_endCancel _ fresh
  · split
    · exact goes _
    · exact passStands_kick fresh

theorem passStands_verifyDecision (c : Current) (fresh : s.page.fresh.get l = true)
    (unstruck : s.page.struck.get l = false) : PassStands l s (s.verifyDecision c) := by
  unfold State.verifyDecision
  split
  · exact passStands_packingPoint _ fresh unstruck
  · exact EngineRun.stands (Relation.ReflTransGen.trans
      (EngineRun.finishLine (W := fun _ => True) s c _ trivial) (EngineRun.choose _ (Workable.all _))) fresh

theorem CatchesUp.aftermath {ls : List Line} (h : CatchesUp s ls u) (same : SameBesideEngine s u) : Aftermath s u := by
  have returns : ∀ l ∈ u.engine.returnList, l ∈ s.engine.returnList := fun l hl => h.returnList ▸ hl
  have queued : ∀ l, l ∈ s.engine.queue ++ ls.filter (fun l => s.lineInService l && !s.engine.queue.contains l) →
      l ∈ s.engine.queue ∨ s.lineInService l = true := by
    intro l hl
    rcases List.mem_append.1 hl with hl | hl
    · exact Or.inl hl
    · simp only [List.mem_filter, Bool.and_eq_true] at hl
      exact Or.inr hl.2.1
  cases hr : s.engine.refresh with
  | some r =>
    obtain ⟨_, _, rfl⟩ := h.joins r hr
    exact ⟨same, rfl, rfl, Nat.le_refl _, queued, returns⟩
  | none =>
    by_cases some : ∃ l ∈ ls, s.lineInService l = true
    · obtain ⟨_, _, rfl⟩ := h.opens hr some
      refine ⟨same, rfl, rfl, ?_, queued, returns⟩
      show (if s.reservoir.charger = .off then 0 else s.reservoir.q) ≤ _
      split
      · exact Nat.zero_le _
      · exact Nat.le_refl _
    · rw [h.nothing hr fun l hl => by simpa using fun hs => some ⟨l, hl, hs⟩]
      exact .refl s

theorem aftermath_catchUp (s : State) {ls : List Line} (once : ls.Nodup) : Aftermath s (s.catchUp ls) :=
  (catchesUp_catchUp s ls once).aftermath (.catchUp s ls)

theorem aftermath_catchUndone (s : State) (l : Line) : Aftermath s (s.catchUndone l) := by
  unfold State.catchUndone
  split
  · exact aftermath_catchUp s (List.nodup_singleton l)
  · exact .refl s

theorem aftermath_dropReturn (s : State) (l : Line) : Aftermath s (s.dropReturn l) :=
  ⟨.setEngine s _, rfl, rfl, Nat.le_refl _, fun _ => Or.inl, fun _ h => List.mem_of_mem_filter h⟩

theorem stage_catchUp (s : State) (ls : List Line) : (s.catchUp ls).stage = s.stage := by
  have appends : ∀ (ls : List Line) (t : State), (t.appendLines ls).stage = t.stage := fun ls => by
    induction ls with
    | nil => exact fun _ => rfl
    | cons l ls ih =>
      intro t
      refine (ih (t.appendLine l)).trans ?_
      unfold State.appendLine
      split <;> rfl
  unfold State.catchUp
  split
  · exact appends ls s
  · split
    · exact (appends ls _).trans rfl
    · rfl

theorem passStands_catchUndone (k : Line) (fresh : s.page.fresh.get l = true) : PassStands l s (s.catchUndone k) := by
  refine (aftermath_catchUndone s k).stands ?_ fresh
  unfold State.catchUndone
  split
  · exact stage_catchUp s _
  · rfl

theorem passStands_dropReturn (k : Line) (fresh : s.page.fresh.get l = true) : PassStands l s (s.dropReturn k) :=
  (aftermath_dropReturn s k).stands rfl fresh

theorem passStands_leaveAudit (fresh : s.page.fresh.get l = true) : PassStands l s s.leaveAudit := by
  unfold State.leaveAudit
  split
  · exact EngineRun.stands (EngineRun.choose s (Workable.all s)) fresh
  · exact EngineRun.stands (EngineRun.goIdle (W := fun _ => True) s) fresh

theorem passStands_continueReturn (fresh : s.page.fresh.get l = true) : PassStands l s s.continueReturn := by
  unfold State.continueReturn
  split
  · exact EngineRun.stands (EngineRun.startReturn (W := fun _ => True) s) fresh
  · split
    · exact EngineRun.stands (EngineRun.choose s (Workable.all s)) fresh
    · exact EngineRun.stands (EngineRun.goIdle (W := fun _ => True) s) fresh

/-- After a verify sense the trims and the ports alone may have moved before the engine goes on. -/
theorem exec_verify_stands (trimLists : List Link) (op : s.modules.operation = some (.sense .verify l)) :
    ∃ (t : State) (trims : Table Int 48) (ports : Ports), exec (.verifySenseComplete ⟨states, trimLists⟩) s = .next t ∧
      PassStands l (((s.endSense l states).setHealth { s.health with trims := trims }).setPorts ports) t := by
  have fresh : (s.endSense l states).page.fresh.get l = true := Table.get_set_same _ _ _
  have unstruck : (s.endSense l states).page.struck.get l = false := Table.get_set_same _ _ _
  have goes := exec_verifySenseComplete states trimLists op
  cases cancelled : s.engine.cancelled with
  | some w =>
    rw [afterLineWork_cancelled (s := s.endSense l states) _ cancelled] at goes
    exact ⟨_, s.health.trims, s.ports, goes, (passStands_endCancel (s := s.endSense l states) w fresh).settle⟩
  | none =>
    cases current : s.engine.current with
    | none =>
      have kicks : ∀ go : Current → State, (s.endSense l states).afterLineWork go = (s.endSense l states).kick :=
        fun go => by
          unfold State.afterLineWork
          rw [show (s.endSense l states).engine.cancelled = none from cancelled,
            show (s.endSense l states).engine.current = none from current]
      rw [kicks] at goes
      exact ⟨_, s.health.trims, s.ports, goes, (passStands_kick (s := s.endSense l states) fresh).settle⟩
    | some c =>
      rw [afterLineWork_current (s := s.endSense l states) _ cancelled current] at goes
      obtain ⟨trims, ports, moved⟩ := updateTrims_eq (s.endSense l states) ⟨c.line, c.round.sensedNow⟩ (s.sensed l) trimLists
      rw [moved] at goes
      obtain ⟨u, hu⟩ : ∃ u, u = ((s.endSense l states).setHealth
          { s.health with trims := trims }).setPorts ports := ⟨_, rfl⟩
      have hfresh : u.page.fresh.get l = true := by rw [hu]; exact fresh
      have hunstruck : u.page.struck.get l = false := by rw [hu]; exact unstruck
      refine ⟨(u.verifyDecision ⟨c.line, c.round.sensedNow⟩).settle, trims, ports, ?_, ?_⟩
      · rw [goes, hu]
        rfl
      · rw [← hu]
        exact (passStands_verifyDecision _ hfresh hunstruck).settle

/-- A sense pass but for one of the sweep or a verify sense. -/
theorem exec_pass_stands {k : SenseKind} (trimLists : List Link) (op : s.modules.operation = some (.sense k l))
    (kind : k ≠ .sweep ∧ k ≠ .verify) : ∃ t, exec (senseCommand k states trimLists) s = .next t ∧
      PassStands l (s.endSense l states) t := by
  have fresh : (s.endSense l states).page.fresh.get l = true := Table.get_set_same _ _ _
  have unstruck : (s.endSense l states).page.struck.get l = false := Table.get_set_same _ _ _
  cases k with
  | sweep => exact absurd rfl kind.1
  | verify => exact absurd rfl kind.2
  | pre =>
    exact ⟨_, exec_preSenseComplete op,
      (passStands_afterLineWork fresh fun c => passStands_packingPoint _ fresh unstruck).settle⟩
  | cancel => exact ⟨_, exec_cancelSenseComplete op, (passStands_afterLineWork fresh fun _ => passStands_kick fresh).settle⟩
  | audit =>
    have caught := passStands_catchUndone (s := s.endSense l states) l fresh
    exact ⟨_, exec_auditSenseComplete op, (caught.trans (passStands_leaveAudit caught.fresh)).settle⟩
  | _ =>
    have dropped := passStands_dropReturn (s := s.endSense l states) l fresh
    have caught := dropped.trans (passStands_catchUndone l dropped.fresh)
    exact ⟨_, exec_returnSenseComplete op, (caught.trans (passStands_continueReturn caught.fresh)).settle⟩

/-- Settles O40: what the pass has written stands through all that follows it. -/
theorem sensePassWritesItsLine : Obligations.SensePassWritesItsLine := by
  refine ⟨fun ln states s => rfl, fun k ln states trimLists s op => ?_⟩
  have hsensed : ∀ t : State, t.page.sensed = (s.endSense ln states).page.sensed →
      t.sensed ln = states ∧ ∀ ln', ln' ≠ ln → t.sensed ln' = s.sensed ln' := fun t h =>
    ⟨(congrArg (fun i : Image => i.get ln) h).trans (Table.get_set_same _ _ _), fun ln' other =>
      (congrArg (fun i : Image => i.get ln') h).trans (Table.get_set_other _ _ (Ne.symm other))⟩
  by_cases sweep : k = .sweep
  · subst sweep
    have after := (aftermath_continueSweep (s.endSense ln states)).settle
    obtain ⟨own, others⟩ := hsensed _ after.sensed
    exact ⟨_, exec_sweepSenseComplete op, own, others, (congrArg (fun f : LineSet => f.get ln) after.fresh).trans
      (Table.get_set_same _ _ _), after.same.records, after.same.panes, after.same.zones, after.same.settings,
      after.same.store, fun h => absurd rfl h, fun _ => after.same.trims⟩
  · by_cases verify : k = .verify
    · subst verify
      obtain ⟨t, trims, ports, goes, ⟨same, sensed, stage⟩, fresh⟩ := exec_verify_stands (states := states) trimLists op
      obtain ⟨own, others⟩ := hsensed t sensed
      exact ⟨t, goes, own, others, fresh, same.records, same.panes, same.zones, same.settings, same.store,
        fun _ => stage, fun h => absurd rfl h⟩
    · obtain ⟨t, goes, ⟨same, sensed, stage⟩, fresh⟩ := exec_pass_stands (states := states) trimLists op ⟨sweep, verify⟩
      obtain ⟨own, others⟩ := hsensed t sensed
      exact ⟨t, goes, own, others, fresh, same.records, same.panes, same.zones, same.settings, same.store,
        fun _ => stage, fun _ => same.trims⟩

end Sys2Proof.Machine
end

section
/-! SUPPORT. The end of a self-test. -/

namespace Sys2Proof.Machine

open Host (Outcome)

variable {s u : State} {m : ModuleId}

theorem set_set {α : Type} {n : Nat} (t : Table α n) (i : Fin n) (x y : α) : (t.set i x).set i y = t.set i y := by
  apply Table.ext_get
  intro j
  rw [Table.get_set, Table.get_set, Table.get_set]
  split <;> rfl

theorem linesOf_sorted (m : ModuleId) : (linesOf m).Pairwise (· < ·) := by revert m; decide +kernel

theorem exec_selfTestComplete {reading : Int} (starting : s.moduleState m = .starting) :
    exec (.selfTestComplete m true reading) s =
      .next ((s.putModule m ⟨.ready, some reading, none⟩).returnToService m).settle ∧
    exec (.selfTestComplete m false reading) s =
      .next ((s.putModule m ⟨.starting, some reading, none⟩).failSelfTest m).settle := ⟨if_pos starting, if_pos starting⟩

/-! ### The module passes -/

theorem awaitSweep_eq (s : State) (m : ModuleId) : ∃ waiting : LineSet,
    (∀ l, waiting.get l = true ↔ s.engine.sweepWaiting.get l = true ∨ moduleOf l = m) ∧
    s.awaitSweep m = s.setEngine { s.engine with sweepWaiting := waiting } :=
  ⟨_, fun l => by simp, rfl⟩

/-- The lines of a module that joins the return-sense list. -/
def State.newReturns (s : State) (m : ModuleId) : List Line :=
  (linesOf m).filter fun l => !s.engine.returnList.contains l

theorem mem_newReturns (s : State) (m : ModuleId) (l : Line) :
    l ∈ s.newReturns m ↔ moduleOf l = m ∧ l ∉ s.engine.returnList := by
  simp [State.newReturns, mem_linesOf]

theorem addReturns_eq (s : State) (m : ModuleId) : (linesOf m).foldl State.addReturn s =
    s.setEngine { s.engine with returnList := s.engine.returnList ++ s.newReturns m } :=
  foldl_addReturn (linesOf m) s (nodup_linesOf m)

theorem kickReturn_cases (s : State) : s.kickReturn = s ∨ s.kickReturn = s.startReturn := by
  unfold State.kickReturn
  split
  · exact Or.inr rfl
  · exact Or.inl rfl

theorem engineRun_kickReturn (s : State) : EngineRun (fun _ => True) s s.kickReturn := by
  rcases kickReturn_cases s with h | h
  · rw [h]
  · rw [h]
    exact EngineRun.startReturn s

theorem kickReturn_keeps {α : Type} (g : State → α) (h : ∀ t l, g (State.startSense t .return l) = g t) (s : State) :
    g s.kickReturn = g s := by
  rcases kickReturn_cases s with e | e
  · rw [e]
  · rw [e]
    exact startReturn_keeps s g (h s)

theorem kickReturn_of_free (h : s.quiet = true ∧ (s.engine.state = .idle ∨ s.engine.state = .deferred ∨
    s.engine.state = .held)) : s.kickReturn = s.startReturn := by
  obtain ⟨quiet, state⟩ := h
  exact if_pos (by rcases state with state | state | state <;> simp [quiet, state])

theorem kickReturn_of_bound (h : ¬ (s.quiet = true ∧ (s.engine.state = .idle ∨ s.engine.state = .deferred ∨
    s.engine.state = .held))) : s.kickReturn = s :=
  if_neg (by simpa [or_assoc] using h)

/-! ### What the sweep tells -/

theorem stage_completeSweep (s : State) : s.completeSweep.stage = .running := by
  have setBoth : ∀ (g : State → Line → Content) (ls : List Line) (t : State),
      (ls.foldl (fun s l => s.setBoth l (g s l)) t).stage = t.stage := fun g ls => by
    induction ls with
    | nil => exact fun _ => rfl
    | cons l ls ih => exact fun t => (ih _).trans rfl
  unfold State.completeSweep
  dsimp only
  split
  · exact (EngineRun.stage (EngineRun.goIdle (W := fun _ => True) _)).trans (setBoth _ _ _)
  · refine (EngineRun.stage (EngineRun.kick _ (Workable.all _))).trans ?_
    obtain ⟨_, _, h⟩ := openRefresh_eq (s.sweptLines.foldl (fun s l => s.setBoth l blankContent) (s.setStage .running))
      (onlyRequester .station) (ls := s.sweptLines.filter (s.setStage .running).hasRaised)
      (((List.nodup_finRange 24).filter _).filter _)
    rw [h]
    exact setBoth _ _ _

/-- An event that leaves the sweep running tells nothing. -/
theorem ports_continueSweep (stage : s.continueSweep.settle.stage ≠ .running) (prompt : s.writer.prompt = false) :
    s.continueSweep.settle.ports = s.ports := by
  rw [EngineRun.stage (EngineRun.settle _ (Workable.all _))] at stage
  have kept : s.continueSweep.ports = s.ports ∧ s.continueSweep.writer = s.writer := by
    unfold State.continueSweep at stage ⊢
    split
    · exact ⟨rfl, rfl⟩
    · rename_i free
      rw [if_neg free] at stage
      split
      · exact ⟨rfl, rfl⟩
      · rename_i none
        simp only [none] at stage
        split
        · rename_i done
          rw [if_pos done] at stage
          exact absurd (stage_completeSweep s) stage
        · exact ⟨rfl, rfl⟩
  rw [settle_of_no_prompt (by rw [kept.2]; exact prompt)]
  exact kept.1

/-! ### The module fails -/

/-- The lines of a module that was out of service leave no work: nothing is told but by the change itself. -/
theorem ports_kick_of_leave (h : EngineOk s) (leaves : LinesLeave s m u) (out : inServiceState (s.moduleState m) = false)
    (operation : u.modules.operation = s.modules.operation)
    (modules : ∀ l, moduleOf l ≠ m → u.lineModule l = s.lineModule l) (prompt : u.writer.prompt = false) :
    u.kick.settle.ports = u.ports := by
  have serves : ∀ l, s.lineInService l = true → moduleOf l ≠ m := by
    rintro l service rfl
    rw [State.lineInService, State.lineModule, out] at service
    cases service
  have stays : u.kick = u → u.kick.settle.ports = u.ports := fun h => by rw [h, settle_of_no_prompt prompt]
  by_cases may : u.mayChoose
  · obtain ⟨opened, quiet, current, deferred⟩ := may
    have sopened : s.engine.refresh.isSome := by
      cases hr : s.engine.refresh with
      | none => rw [leaves.closed hr] at opened; cases opened
      | some r => rfl
    have running := h.started sopened
    have squiet : s.modules.operation = none := operation ▸ (quiet_iff u).1 quiet
    have queue : u.engine.queue = s.engine.queue := by
      rw [leaves.engine]
      exact List.filter_eq_self.2 fun l hl => by simpa using serves l (h.service l hl)
    have state : u.engine.state = s.engine.state := (congrArg Engine.state leaves.engine).trans rfl
    cases h.phase running with
    | busy o op => rw [squiet] at op; cases op
    | waiting c _ _ hc queued =>
      rw [(congrArg Engine.current leaves.engine).trans rfl] at current
      have : moduleOf c.line ≠ m := serves _ (h.service _ queued)
      simp [hc, this] at current
    | rest _ _ _ returns rests =>
      cases rests with
      | idle _ closed => rw [closed] at sopened; cases sopened
      | deferred hstate _ empty => exact absurd (queue.trans empty) (deferred (state.trans hstate))
      | held _ _ waits ready =>
        have list : u.engine.returnList = [] := by
          rw [(congrArg Engine.returnList leaves.engine).trans rfl]
          simp [returns]
        have none : ∀ l ∈ u.engine.queue, u.lineModule l ≠ .ready := fun l hl => by
          rw [queue] at hl
          rw [modules l (serves l (h.service l hl))]
          have := List.find?_eq_none.1 ready l hl
          simpa using this
        have chooses : u.kick = u.setEngineState .held := by
          rw [← choose_of_none_ready list (queue ▸ waits) none]
          unfold State.kick
          rw [if_pos (by simp [opened, quiet, current]), if_neg fun h => deferred h.1 h.2]
        rw [chooses, settle_of_no_prompt (by exact prompt)]
        rfl
  · apply stays
    unfold State.kick
    split
    · rename_i open_
      simp only [Bool.and_eq_true, Option.isNone_iff_eq_none] at open_
      obtain ⟨⟨opened, quiet⟩, current⟩ := open_
      split
      · rfl
      · rename_i more
        exact absurd ⟨opened, quiet, current, fun state queue => more ⟨state, queue⟩⟩ may
    · rfl

end Sys2Proof.Machine
end

section
/-! SUPPORT. What the end of a self-test leads to, stage by stage. -/

namespace Sys2Proof.Machine

open Host (Outcome)

variable {s : State} {m : ModuleId}

theorem beside_moduleChanged (s : State) (m : ModuleId) (x : ModuleState) : SameBesideEngine s (s.moduleChanged m x) := by
  unfold State.moduleChanged
  split
  · exact .notify s _ _
  · exact .refl s

theorem beside_returnToService (s : State) (m : ModuleId) : SameBesideEngine s (s.returnToService m) := by
  unfold State.returnToService
  split
  · exact (SameBesideEngine.setEngine s _).trans (.continueSweep _)
  · exact ((beside_moduleChanged s m .ready).trans (SameBesideEngine.foldl _ SameBesideEngine.addReturn _ _)).trans
      (.kickReturn _)
  all_goals exact .refl s

theorem returnToService_of_loading (loading : s.loading = true) : s.returnToService m = s := by
  unfold State.loading at loading
  unfold State.returnToService
  split <;> simp_all

theorem returnToService_of_sweeping (stage : s.stage = .sweeping) :
    s.returnToService m = (s.awaitSweep m).continueSweep := by simp only [State.returnToService, stage]

theorem returnToService_of_running (stage : s.stage = .running) : s.returnToService m =
    ((s.setPorts (s.portsTold m .ready)).setEngine
      { s.engine with returnList := s.engine.returnList ++ s.newReturns m }).kickReturn := by
  simp only [State.returnToService, stage]
  rw [moduleChanged_eq, addReturns_eq]
  rfl

theorem portsTold_of_not_running (h : s.stage ≠ .running) (m : ModuleId) (x : ModuleState) :
    s.portsTold m x = s.ports := if_neg h

/-- What a self-test leaves beside the lines, in whatever stage. -/
structure TestOver (s : State) (m : ModuleId) (x : ModuleRecord) (t : State) : Prop where
  records : t.modules.records = s.modules.records.set m x
  panes : t.panes = s.panes
  zones : t.zones = s.zones
  settings : t.settings = s.settings
  store : t.store = s.store
  trims : t.health.trims = s.health.trims

theorem TestOver.after {x : ModuleRecord} {t u : State} (h : TestOver s m x t) (k : SameBesideEngine t u) :
    TestOver s m x u :=
  ⟨k.records.trans h.records, k.panes.trans h.panes, k.zones.trans h.zones, k.settings.trans h.settings,
    k.store.trans h.store, k.trims.trans h.trims⟩

/-- Where the module passes while its lines return, the ports tell of it alone. -/
theorem selfTest_passes (reading : Int) (starting : s.moduleState m = .starting) : ∃ t,
    exec (.selfTestComplete m true reading) s = .next t ∧ TestOver s m ⟨.ready, some reading, none⟩ t ∧
    (s.stage = .running → ∀ l, moduleOf l = m → l ∈ t.engine.returnList) ∧
    (s.writer.prompt = false → t.stage = s.stage → t.ports = s.portsTold m .ready) := by
  obtain ⟨v, hv⟩ : ∃ v, v = s.putModule m ⟨.ready, some reading, none⟩ := ⟨_, rfl⟩
  have goes := (exec_selfTestComplete (reading := reading) starting).1
  rw [← hv] at goes
  have stage : v.stage = s.stage := by rw [hv]; rfl
  have self : TestOver s m ⟨.ready, some reading, none⟩ v := by rw [hv]; exact ⟨rfl, rfl, rfl, rfl, rfl, rfl⟩
  refine ⟨_, goes, self.after ((beside_returnToService v m).trans (.settle _)), fun running l hl => ?_,
    fun prompt same => ?_⟩
  · rw [(EngineRun.shift (EngineRun.settle _ (Workable.all _))).returns,
      returnToService_of_running (stage.trans running),
      (EngineRun.shift (engineRun_kickReturn _)).returns]
    show l ∈ v.engine.returnList ++ v.newReturns m
    rw [List.mem_append, mem_newReturns]
    by_cases h : l ∈ v.engine.returnList
    · exact Or.inl h
    · exact Or.inr ⟨hl, h⟩
  · have hprompt : v.writer.prompt = false := by rw [hv]; exact prompt
    have hports : v.ports = s.ports := by rw [hv]; rfl
    by_cases running : s.stage = .running
    · rw [returnToService_of_running (stage.trans running), settle_of_no_prompt (by
        rw [kickReturn_keeps State.writer (fun _ _ => rfl)]; exact hprompt),
        kickReturn_keeps State.ports (fun _ _ => rfl)]
      rw [hv]
      rfl
    · rw [portsTold_of_not_running running]
      by_cases sweeping : s.stage = .sweeping
      · rw [returnToService_of_sweeping (stage.trans sweeping)] at same ⊢
        rw [ports_continueSweep (by rw [same]; exact running) (by exact hprompt)]
        exact hports
      · have loading : v.loading = true := by
          unfold State.loading
          rw [stage]
          cases h : s.stage <;> simp_all
        rw [returnToService_of_loading loading, settle_of_no_prompt hprompt]
        exact hports

/-- The board with a module that failed its self-test, before what follows. -/
def State.testFailed (s : State) (m : ModuleId) (reading : Int) : State :=
  (s.putModule m ⟨.starting, some reading, none⟩).enterFaulted m

theorem testFailed_eq (s : State) (m : ModuleId) (reading : Int) : s.testFailed m reading =
    (((s.setPorts (s.testFailed m reading).ports).setEngine (s.testFailed m reading).engine).setPage
      { s.page with fresh := (s.testFailed m reading).page.fresh }).setModules { s.modules with
        records := s.modules.records.set m ⟨.faulted, some reading, none⟩ } ∧
    (s.testFailed m reading).ports = s.portsTold m .faulted ∧ LinesLeave s m (s.testFailed m reading) := by
  have written := enterFaulted_eq (s.putModule m ⟨.starting, some reading, none⟩) m
  have leaves := linesLeave_enterFaulted (s.putModule m ⟨.starting, some reading, none⟩) m
  have records : (s.putModule m ⟨.starting, some reading, none⟩).modules.records.set m
      { (s.putModule m ⟨.starting, some reading, none⟩).modules.records.get m with state := .faulted, selfTest := none } =
      s.modules.records.set m ⟨.faulted, some reading, none⟩ := by
    show (s.modules.records.set m _).set m _ = _
    rw [set_set]
    show s.modules.records.set m { (s.modules.records.set m _).get m with state := _, selfTest := _ } = _
    rw [Table.get_set_same]
  rw [records] at written
  have told : (s.testFailed m reading).ports = s.portsTold m .faulted := congrArg State.ports written
  refine ⟨?_, told, ⟨leaves.engine, leaves.closed, leaves.unavailable, leaves.fresh⟩⟩
  rw [told]
  exact written

theorem selfTest_fails (reading : Int) (starting : s.moduleState m = .starting) : ∃ t,
    exec (.selfTestComplete m false reading) s = .next t ∧ TestOver s m ⟨.faulted, some reading, none⟩ t ∧
    (∀ l, moduleOf l = m → t.page.fresh.get l = false) ∧
    (EngineOk s → s.writer.prompt = false → t.stage = s.stage → t.ports = s.portsTold m .faulted) := by
  obtain ⟨written, told, leaves⟩ := testFailed_eq s m reading
  have goes := (exec_selfTestComplete (reading := reading) starting).2
  change _ = Outcome.next (State.settle (if (s.testFailed m reading).stage = .sweeping then
    ((s.testFailed m reading).sweepFaulted m).continueSweep else (s.testFailed m reading).kick)) at goes
  generalize s.testFailed m reading = u at written told leaves goes
  obtain ⟨stage, panes, zones, settings, store, health, -, writer⟩ := otherBlocks_of_eq written
  have modules : u.modules = { s.modules with records := s.modules.records.set m ⟨.faulted, some reading, none⟩ } :=
    congrArg State.modules written
  have self : TestOver s m ⟨.faulted, some reading, none⟩ u :=
    ⟨congrArg ModuleInterface.records modules, panes, zones, settings, store, congrArg Health.trims health⟩
  have fresh := leaves.gone.fresh
  rw [stage] at goes
  by_cases sweeping : s.stage = .sweeping
  · rw [if_pos sweeping] at goes
    obtain ⟨waiting, staging, target, sensed, -, -, -, -, he⟩ := sweepFaulted_eq u m
    have after := (aftermath_continueSweep (u.sweepFaulted m)).settle
    refine ⟨_, goes, self.after ((SameBesideEngine.sweepFaulted u m).trans after.same), fun l hl => ?_,
      fun _ prompt same => ?_⟩
    · rw [after.fresh, he]
      exact fresh l hl
    · rw [ports_continueSweep (by rw [same, sweeping]; decide) (by rw [he]; exact (congrArg Writer.prompt writer).trans prompt),
        he]
      exact told
  · rw [if_neg sweeping] at goes
    have after := (Aftermath.kick u).settle
    refine ⟨_, goes, self.after after.same, fun l hl => ?_, fun ok prompt _ => ?_⟩
    · rw [after.fresh]
      exact fresh l hl
    · rw [ports_kick_of_leave ok leaves (by rw [starting]; rfl)
        (by rw [modules]) (fun l hl => ?_) ((congrArg Writer.prompt writer).trans prompt)]
      · exact told
      · unfold State.lineModule State.moduleState
        rw [modules]
        exact congrArg ModuleRecord.state (Table.get_set_other _ _ (Ne.symm hl))

/-- Settles O37: READY or FAULTED, then the sweep, the return senses or the engine's choice go on. -/
theorem selfTestTakesTheModuleOn : Obligations.SelfTestTakesTheModuleOn := by
  intro m passed reading s starting
  cases passed with
  | true =>
    obtain ⟨t, goes, tested, returns, ports⟩ := selfTest_passes reading starting
    have follows := (exec_selfTestComplete (reading := reading) starting).1
    refine ⟨t, goes, tested.records, fun _ => returns, (fun h => nomatch h), tested.panes, tested.zones, tested.settings,
      tested.store, tested.trims, fun _ => ports, ?_⟩
    refine ⟨fun _ loading => ?_, fun _ sweeping => ?_, fun _ running => ?_, (fun h => nomatch h)⟩
    · rw [returnToService_of_loading (by exact loading)] at follows
      exact follows
    · rw [returnToService_of_sweeping (by exact sweeping)] at follows
      obtain ⟨waiting, hw, he⟩ := awaitSweep_eq (s.putModule m ⟨.ready, some reading, none⟩) m
      refine ⟨waiting, hw, ?_⟩
      rw [he] at follows
      exact follows ▸ sweepGoesOn_continueSweep _
    · rw [returnToService_of_running (by exact running)] at follows
      refine ⟨s.newReturns m, (linesOf_sorted m).filter _, mem_newReturns s m, ?_⟩
      intro list told free
      have goesOn : exec (.selfTestComplete m true reading) s = .next told.kickReturn.settle := follows
      refine ⟨fun bound => ?_, fun h empty => ?_, fun h first rest hlist => ?_⟩
      · rw [kickReturn_of_bound (by exact bound)] at goesOn
        exact goesOn
      · rw [kickReturn_of_free (by exact h), startReturn_of_empty (by exact empty)] at goesOn
        exact goesOn
      · have senses : told.startReturn = told.startSense .return first := by
          have : told.engine.returnList = first :: rest := hlist
          unfold State.startReturn
          rw [this]
        rw [kickReturn_of_free (by exact h), senses] at goesOn
        exact goesOn
  | false =>
    obtain ⟨t, goes, tested, fresh, ports⟩ := selfTest_fails reading starting
    obtain ⟨written, told, leaves⟩ := testFailed_eq s m reading
    have follows := (exec_selfTestComplete (reading := reading) starting).2
    refine ⟨t, goes, tested.records, (fun h => nomatch h), fun _ => fresh, tested.panes, tested.zones, tested.settings,
      tested.store, tested.trims, ports, ?_⟩
    refine ⟨(fun h => nomatch h), (fun h => nomatch h), (fun h => nomatch h), fun _ =>
      ⟨s.testFailed m reading, leaves, told, written, fun out => ?_, fun sweeping => ?_⟩⟩
    · have kicks : (s.putModule m ⟨.starting, some reading, none⟩).failSelfTest m = (s.testFailed m reading).kick := by
        refine if_neg ?_
        rw [stage_enterFaulted]
        exact out
      rw [follows, kicks]
      exact choosesFrom_kick _
    · have sweeps : (s.putModule m ⟨.starting, some reading, none⟩).failSelfTest m =
          ((s.testFailed m reading).sweepFaulted m).continueSweep := by
        refine if_pos ?_
        rw [stage_enterFaulted]
        exact sweeping
      obtain ⟨waiting, staging, target, sensed, hw, hs, ht, hn, he⟩ := sweepFaulted_eq (s.testFailed m reading) m
      have waits := congrArg Engine.sweepWaiting leaves.engine
      have page := congrArg State.page written
      refine ⟨waiting, staging, target, sensed, fun l => (hw l).trans (by rw [waits]), fun l => (hs l).trans ?_,
        fun l => (ht l).trans ?_, fun l => (hn l).trans ?_, ?_⟩
      · unfold State.staging; rw [page]; rfl
      · unfold State.target; rw [page]; rfl
      · unfold State.sensed; rw [page]; rfl
      · rw [follows, sweeps, he]
        exact he ▸ sweepGoesOn_continueSweep _

end Sys2Proof.Machine
end

section
/-! SUPPORT. The end of a load and the beginning of the sweep. -/

namespace Sys2Proof.Machine

open Host (Outcome)

variable {s v : State}

/-! ### The sweep begins -/

/-- The board at the beginning of the sweep, with the images given. -/
def State.atSweep (s : State) (staging target sensed : Image) : State :=
  (s.setStage .sweeping).setPage
    { s.page with staging := staging, target := target, sensed := sensed, fresh := Table.fill false }

/-- The line is one of a module that the sweep does not wait for. -/
abbrev State.outOfSweep (s : State) (l : Line) : Prop := s.lineModule l = .absent ∨ s.lineModule l = .faulted

theorem startSweep_eq (s : State) : ∃ staging target sensed : Image,
    (∀ l, staging.get l = if s.outOfSweep l then Table.fill 0 else s.staging l) ∧
    (∀ l, target.get l = if s.outOfSweep l then Table.fill 0 else s.target l) ∧
    (∀ l, sensed.get l = if s.outOfSweep l then Table.fill 0 else s.sensed l) ∧
    s.startSweep = (s.atSweep staging target sensed).continueSweep := by
  obtain ⟨staging, target, sensed, hs, ht, hn, he⟩ := blankLines_eq
    (allLines.filter fun l => s.lineModule l == .absent || s.lineModule l == .faulted) (s.setStage .sweeping).clearAllFresh
  have out : ∀ l, l ∈ allLines.filter (fun l => s.lineModule l == .absent || s.lineModule l == .faulted) ↔
      s.outOfSweep l := fun l => by simp [mem_allLines]
  simp only [out] at hs ht hn
  exact ⟨staging, target, sensed, hs, ht, hn, congrArg State.continueSweep he⟩

theorem ownedLines_local_of_initialPanes (h : s.panes = initialPanes) : s.ownedLines .localWriter = [] := by
  unfold State.ownedLines State.owns
  rw [h]
  rfl

/-- What the engine, the writer and the panes hold at the beginning of the sweep. -/
structure SweepBegins (s : State) : Prop where
  engine : s.engine = initialEngine
  quiet : s.modules.operation = none
  writer : s.writer = initialWriter
  panes : s.panes = initialPanes

theorem SweepBegins.no_local (h : SweepBegins s) : s.ownedLines .localWriter = [] :=
  ownedLines_local_of_initialPanes h.panes

theorem SweepBegins.nothing_waits (h : SweepBegins s) (l : Line) : s.engine.sweepWaiting.get l = false := by
  rw [h.engine]
  exact Table.get_fill _ _

theorem SweepBegins.waits (h : SweepBegins s) (starting : ∃ m, s.moduleState m = .starting) :
    s.continueSweep.settle = s := by
  have goes := (sweepGoesOn_continueSweep s).waits ((quiet_iff s).2 h.quiet) h.nothing_waits starting
  rw [settle_of_no_prompt (s := s) (by rw [h.writer]; rfl)] at goes
  exact Outcome.next.inj goes

theorem SweepBegins.completes (h : SweepBegins s) (none : ∀ m, s.moduleState m ≠ .starting) :
    s.continueSweep = s.completeSweep ∧ SweepCompletes (.next s.continueSweep.settle) s := by
  have quiet := (quiet_iff s).2 h.quiet
  refine ⟨?_, (sweepGoesOn_continueSweep s).completes quiet h.nothing_waits none (by rw [h.engine]; rfl)
    (by rw [h.engine]; rfl)⟩
  rw [continueSweep_empty s quiet (members_eq_nil h.nothing_waits), if_pos ((sweepDone_iff s).2 ⟨h.nothing_waits, none⟩)]

theorem closeRefresh_idle (r : Refresh) (o : CloseOutcome) (e : Option Identity) (returns : s.engine.returnList = []) :
    (s.closeRefresh r o e).engine.state = .idle := by
  rw [closeRefresh_eq, startReturn_of_empty (by exact returns)]
  rfl

/-- With no line in service the sweep that completes leaves an IDLE engine. -/
theorem SweepBegins.idles (h : SweepBegins s) (nothing : ∀ m, s.moduleState m ≠ .starting)
    (out : ∀ l, s.lineInService l = false) :
    s.continueSweep.settle.stage = .running ∧ s.continueSweep.settle.engine.state = .idle := by
  obtain ⟨completes, cases⟩ := h.completes nothing
  refine ⟨?_, ?_⟩
  · rw [EngineRun.stage (EngineRun.settle _ (Workable.all _)), completes]
    exact stage_completeSweep s
  · cases policy : s.settings.resetPolicy with
    | hold =>
      obtain ⟨staging, target, -, -, goes⟩ := cases.hold policy
      rw [Outcome.next.inj goes, settle_of_no_local (by exact h.no_local)]
      rfl
    | blank =>
      obtain ⟨staging, target, raised, -, -, -, mem, chooses⟩ := cases.blank policy
      have noLine : raised = [] := List.eq_nil_iff_forall_not_mem.2 fun l hl => by
        have := ((mem l).1 hl).1
        rw [out l] at this
        cases this
      subst noLine
      generalize hu : State.setReservoir _ _ = u at chooses
      have engine : u.engine = { s.engine with
          generation := s.engine.generation + 1
          queue := []
          refresh := some ⟨⟨true, false, false⟩, none, false, 0, 0, 0, Table.fill false, Table.fill false⟩
          auditInterval := none } := by rw [← hu]; rfl
      have quiet : u.quiet = true := by rw [quiet_iff, ← hu]; exact h.quiet
      have returns : u.engine.returnList = [] := by rw [engine, h.engine]; rfl
      have chosen := chooses.choice ⟨by rw [engine]; rfl, quiet, by rw [engine, h.engine]; rfl,
        fun deferred => by rw [engine, h.engine] at deferred; cases deferred⟩
      have stale : u.engine.stale.count = 0 := by
        rw [count_eq_zero_iff, engine, h.engine]
        exact Table.get_fill _
      rw [Outcome.next.inj chosen, choose_of_empty returns (by rw [engine]),
        closeDecision_of_no_stale (by rw [engine]) stale]
      have no_local : ∀ r o e, (u.closeRefresh r o e).ownedLines .localWriter = [] := fun r o e => by
        refine ownedLines_local_of_initialPanes ?_
        rw [(SameBesideEngine.closeRefresh u r o e).panes, ← hu]
        exact h.panes
      rw [if_neg (by decide)]
      split
      · rw [settle_of_no_local (no_local _ _ _)]
        exact closeRefresh_idle _ _ _ returns
      · rw [settle_of_no_local (no_local _ _ _)]
        exact closeRefresh_idle _ _ _ returns

/-- The end of the sweep sets no line that is out of service. -/
theorem images_completeSweep {l : Line} (out : s.lineInService l = false) (other : s.owns .localWriter l = false) :
    s.completeSweep.staging l = s.staging l ∧ s.completeSweep.target l = s.target l := by
  have unswept : l ∉ s.sweptLines := fun hl => by
    rw [mem_sweptLines, out] at hl
    cases hl
  unfold State.completeSweep
  dsimp only
  split
  · obtain ⟨staging, target, hs, ht, h⟩ := foldl_setBoth (fun sensed l => sensed.get l) s.sweptLines (s.setStage .running)
    have held : s.sweptLines.foldl (fun s l => s.setBoth l (s.sensed l)) (s.setStage .running) = _ := h
    rw [held]
    obtain ⟨h1, h2⟩ := EngineRun.images (EngineRun.goIdle (W := fun _ => True) ((s.setStage .running).setPage
      { s.page with staging := staging, target := target })) l other
    exact ⟨h1.trans ((hs l).trans (if_neg unswept)), h2.trans ((ht l).trans (if_neg unswept))⟩
  · obtain ⟨staging, target, hs, ht, h⟩ := foldl_setBoth (fun _ _ => blankContent) s.sweptLines (s.setStage .running)
    obtain ⟨v, hv⟩ : ∃ v, v = (s.setStage .running).setPage
      { (s.setStage .running).page with staging := staging, target := target } := ⟨_, rfl⟩
    have hstaging : v.staging l = s.staging l := by rw [hv]; exact (hs l).trans (if_neg unswept)
    have htarget : v.target l = s.target l := by rw [hv]; exact (ht l).trans (if_neg unswept)
    have hother : v.owns .localWriter l = false := by rw [hv]; exact other
    rw [h, ← hv]
    obtain ⟨u, hu⟩ : ∃ u, u = v.openRefresh (onlyRequester .station) (s.sweptLines.filter (s.setStage .running).hasRaised) :=
      ⟨_, rfl⟩
    obtain ⟨unavailable, -, opens⟩ := openRefresh_eq v (onlyRequester .station)
      (ls := s.sweptLines.filter (s.setStage .running).hasRaised) (((List.nodup_finRange 24).filter _).filter _)
    rw [← hu] at opens ⊢
    obtain ⟨h1, h2⟩ := EngineRun.images (EngineRun.kick u (Workable.all u)) l (by rw [opens]; exact hother)
    have page : u.page = v.page := by rw [opens]; rfl
    unfold State.staging at h1 hstaging ⊢
    unfold State.target at h2 htarget ⊢
    rw [h1, h2, page]
    exact ⟨hstaging, htarget⟩

theorem SweepBegins.images (h : SweepBegins s) {l : Line} (out : s.lineInService l = false) :
    s.continueSweep.settle.staging l = s.staging l ∧ s.continueSweep.settle.target l = s.target l := by
  have noneOwns : ∀ k, s.owns .localWriter k = false := fun k => by
    have := h.no_local
    by_contra owns
    have mem := (mem_ownedLines s .localWriter k).2 (by simpa using owns)
    rw [this] at mem
    cases mem
  by_cases starting : ∃ m, s.moduleState m = .starting
  · rw [h.waits starting]
    exact ⟨rfl, rfl⟩
  · obtain ⟨completes, -⟩ := h.completes fun m hm => starting ⟨m, hm⟩
    rw [completes]
    have owns : s.completeSweep.owns .localWriter l = false := by
      unfold State.owns
      rw [(SameBesideEngine.completeSweep s).panes]
      exact noneOwns l
    obtain ⟨h1, h2⟩ := EngineRun.images (EngineRun.settle _ (Workable.all s.completeSweep)) l owns
    obtain ⟨k1, k2⟩ := images_completeSweep out (noneOwns l)
    exact ⟨h1.trans k1, h2.trans k2⟩

end Sys2Proof.Machine
end

section
/-! SUPPORT. The retained record as a load reads it, and the modules that a load starts. -/

namespace Sys2Proof.Machine

open Host (Outcome)

variable {s v : State}

/-- The working settings and record_state that a load leaves. -/
structure SettingsLoaded (s : State) (x : Settings) (y : Store) : Prop where
  valid : ∀ r, loadRecord s.store.stored = some r → x = clampSettings r.settings ∧
    y = { s.store with recordState := .loaded }
  invalid : loadRecord s.store.stored = none → x = defaultSettings ∧ y = { s.store with recordState := .defaulted }

theorem loadSettings_eq (s : State) : ∃ (x : Settings) (y : Store), SettingsLoaded s x y ∧
    s.loadSettings = (s.setSettings x).setStore y := by
  unfold State.loadSettings
  cases h : loadRecord s.store.stored with
  | none =>
    refine ⟨_, _, ⟨fun r hr => ?_, fun _ => ⟨rfl, rfl⟩⟩, rfl⟩
    rw [h] at hr
    cases hr
  | some r =>
    refine ⟨_, _, ⟨fun k hk => ?_, fun hn => ?_⟩, rfl⟩
    · rw [h] at hk
      cases hk
      exact ⟨rfl, rfl⟩
    · rw [h] at hn
      cases hn

theorem loadHealth_eq {s t : State} (stored : t.store.stored = s.store.stored) : ∃ x : Health,
    (∀ r, loadRecord s.store.stored = some r → x = r.health) ∧
    (loadRecord s.store.stored = none → x = blankHealth) ∧ t.loadHealth = t.setHealth x := by
  unfold State.loadHealth
  rw [stored]
  cases h : loadRecord s.store.stored with
  | none => exact ⟨_, fun r hr => (by cases hr), fun _ => rfl, rfl⟩
  | some r => exact ⟨_, fun k hk => (by cases hk; rfl), fun hn => (by cases hn), rfl⟩

theorem SettingsLoaded.stored {x : Settings} {y : Store} (h : SettingsLoaded s x y) : y.stored = s.store.stored := by
  cases hr : loadRecord s.store.stored with
  | none => rw [(h.invalid hr).2]
  | some r => rw [(h.valid r hr).2]

/-- The board when the load after a power-on has ended, before the sweep. -/
theorem loaded_eq (s : State) (answers : Table Bool 8) (readings : Table Int 8) :
    ∃ (x : Settings) (y : Store) (z : Health), SettingsLoaded s x y ∧
    (∀ r, loadRecord s.store.stored = some r → z = r.health) ∧
    (loadRecord s.store.stored = none → z = blankHealth) ∧
    s.loadSettings.loadHealth.detect answers readings =
      (((((s.setSettings x).setStore y).setHealth z).setModules
        ⟨Table.tab fun m => if answers.get m then ⟨.starting, some (readings.get m), some 50⟩ else absentModule,
          answers, none⟩).setZones (firstReadings s.zones answers.get)) := by
  obtain ⟨x, y, loaded, hx⟩ := loadSettings_eq s
  obtain ⟨z, valid, invalid, hz⟩ := loadHealth_eq (s := s) (t := s.loadSettings) (by rw [hx]; exact loaded.stored)
  refine ⟨x, y, z, loaded, valid, invalid, ?_⟩
  rw [hz, hx]
  rfl

/-- Modules that a soft reset starts again while the record is loaded: their records, and their lines' fresh flags. -/
theorem restartModules_eq (readings : Table Int 8) (ms : List ModuleId) : ∀ s : State, s.engine = initialEngine →
    s.stage ≠ .running → ∃ (records : Table ModuleRecord 8) (fresh : LineSet),
    (∀ m, records.get m = if m ∈ ms then ⟨.starting, some (readings.get m), some 50⟩ else s.modules.records.get m) ∧
    ms.foldl (fun s m => s.enterStarting m (readings.get m)) s =
      (s.setModules { s.modules with records := records }).setPage { s.page with fresh := fresh } := by
  induction ms with
  | nil => exact fun s _ _ => ⟨s.modules.records, s.page.fresh, fun _ => rfl, rfl⟩
  | cons k ms ih =>
    intro s engine idle
    have written := enterStarting_eq s k (readings.get k)
    have leaves := linesLeave_enterStarting s k (readings.get k)
    have hengine : (s.enterStarting k (readings.get k)).engine = initialEngine := by
      rw [leaves.engine, leaves.closed (by rw [engine]; rfl), engine]
      rfl
    rw [hengine, portsTold_of_not_running idle, ← engine] at written
    obtain ⟨records, fresh, hr, he⟩ := ih (s.enterStarting k (readings.get k)) hengine
      (by rw [stage_enterStarting]; exact idle)
    refine ⟨records, fresh, fun m => ?_, ?_⟩
    · rw [hr, written]
      show (if m ∈ ms then _ else (s.modules.records.set k _).get m) = _
      rw [Table.get_set]
      by_cases hm : m = k
      · subst hm
        simp
      · simp [hm, Ne.symm hm]
    · rw [List.foldl_cons, he, written]
      rfl

/-! ### Defaults and clamps -/

theorem defaultTables : (∀ i : Fin 16,
    let n1 := i.val / 4 % 2 + i.val / 2 % 2
    let n2 := i.val / 8 + i.val % 2
    defaultRaiseTable.get i = (if n1 = 2 then .long else if n1 = 0 ∧ n2 = 0 then .short else .normal) ∧
    defaultLowerTable.get i = (if n1 = 2 then .short else if n1 = 0 then .long else .normal)) := by decide

/-! ### The sweep entered from a load -/

theorem health_startReturn (s : State) : s.startReturn.health = s.health := startReturn_keeps s State.health fun _ => rfl

theorem health_closeRefresh (s : State) (r : Refresh) (o : CloseOutcome) (e : Option Identity) :
    (s.closeRefresh r o e).health = s.health := by
  rw [closeRefresh_eq, health_startReturn]
  rfl

theorem health_closeDecision (s : State) (who : Option Identity) : (s.closeDecision who).health = s.health := by
  unfold State.closeDecision
  split
  · rfl
  · split
    · split
      · exact health_closeRefresh s _ _ _
      · split
        · exact health_closeRefresh s _ _ _
        · exact health_closeRefresh s _ _ _
    · split
      · exact health_closeRefresh s _ _ _
      · split
        · exact health_closeRefresh s _ _ _
        · exact health_startReturn _

/-- A choice among lines of which none is fresh writes no health record. -/
theorem health_choose (stale : ∀ l, s.page.fresh.get l = false) : s.choose.health = s.health := by
  cases returns : s.engine.returnList with
  | cons l rest =>
    rw [choose_of_returns returns]
    rfl
  | nil =>
    by_cases queue : s.engine.queue = []
    · rw [choose_of_empty returns queue]
      exact health_closeDecision s none
    · cases ready : s.nextReady with
      | none =>
        rw [choose_of_none_ready returns queue fun l hl => by simpa using List.find?_eq_none.1 ready l hl]
        rfl
      | some l =>
        rw [choose_of_nextReady s l returns ready]
        have : s.fresh l = false := stale l
        simp only [State.takeLine, this, Bool.false_eq_true, if_false]
        rfl

theorem health_completeSweep (stale : ∀ l, s.page.fresh.get l = false) : s.completeSweep.health = s.health := by
  unfold State.completeSweep
  dsimp only
  split
  · obtain ⟨staging, target, -, -, h⟩ := foldl_setBoth (fun sensed l => sensed.get l) s.sweptLines (s.setStage .running)
    have held : s.sweptLines.foldl (fun s l => s.setBoth l (s.sensed l)) (s.setStage .running) = _ := h
    rw [held]
    unfold State.goIdle
    rw [health_startReturn]
    rfl
  · obtain ⟨staging, target, -, -, h⟩ := foldl_setBoth (fun _ _ => blankContent) s.sweptLines (s.setStage .running)
    obtain ⟨v, hv⟩ : ∃ v, v = (s.setStage .running).setPage
      { (s.setStage .running).page with staging := staging, target := target } := ⟨_, rfl⟩
    rw [h, ← hv]
    obtain ⟨u, hu⟩ : ∃ u, u = v.openRefresh (onlyRequester .station) (s.sweptLines.filter (s.setStage .running).hasRaised) :=
      ⟨_, rfl⟩
    obtain ⟨unavailable, -, opens⟩ := openRefresh_eq v (onlyRequester .station)
      (ls := s.sweptLines.filter (s.setStage .running).hasRaised) (((List.nodup_finRange 24).filter _).filter _)
    rw [← hu] at opens ⊢
    have fresh : u.page.fresh = s.page.fresh := by rw [opens, hv]; rfl
    have health : u.health = s.health := by rw [opens, hv]; rfl
    unfold State.kick
    split
    · split
      · exact health
      · rw [health_choose fun l => by rw [fresh]; exact stale l]
        exact health
    · exact health

/-- What the board holds once the event that ends a load is over. -/
structure SweepEntered (d : State) (staging target sensed : Image) (t : State) : Prop where
  goes : SweepGoesOn (.next t) (d.atSweep staging target sensed)
  same : SameBesideEngine d t
  health : t.health = d.health
  sensed : t.page.sensed = sensed
  fresh : ∀ l, t.page.fresh.get l = false
  images : ∀ l, d.lineInService l = false → t.staging l = staging.get l ∧ t.target l = target.get l
  waits : (∃ m, d.moduleState m = .starting) → t.stage = .sweeping ∧ t.engine.state = .sensing
  idles : (∀ m, d.moduleState m ≠ .starting) → (∀ l, d.lineInService l = false) →
    t.stage = .running ∧ t.engine.state = .idle

theorem sweepEntered {d : State} (begins : SweepBegins d) (staging target sensed : Image) :
    SweepEntered d staging target sensed (d.atSweep staging target sensed).continueSweep.settle := by
  obtain ⟨v, hv⟩ : ∃ v, v = d.atSweep staging target sensed := ⟨_, rfl⟩
  have starts : SweepBegins v := by
    rw [hv]
    exact ⟨begins.engine, begins.quiet, begins.writer, begins.panes⟩
  have same : SameBesideEngine d v := hv ▸ ⟨rfl, rfl, rfl, rfl, rfl, rfl, rfl, rfl, rfl, rfl⟩
  have hstate : v.moduleState = d.moduleState := by rw [hv]; rfl
  have hservice : v.lineInService = d.lineInService := same.lineInService
  have hpage : v.page.staging = staging ∧ v.page.target = target ∧ v.page.sensed = sensed ∧
      v.page.fresh = Table.fill false := by rw [hv]; exact ⟨rfl, rfl, rfl, rfl⟩
  have hhealth : v.health = d.health := by rw [hv]; rfl
  have stale : ∀ l, v.page.fresh.get l = false := fun l => by
    rw [hpage.2.2.2]
    exact Table.get_fill _ _
  have after := (aftermath_continueSweep v).settle
  rw [← hv]
  refine ⟨hv ▸ sweepGoesOn_continueSweep v, same.trans after.same, ?_, after.sensed.trans hpage.2.2.1, fun l => ?_,
    fun l out => ?_, fun starting => ?_, fun none out => ?_⟩
  · rw [← hhealth]
    by_cases starting : ∃ m, v.moduleState m = .starting
    · rw [starts.waits starting]
    · obtain ⟨completes, -⟩ := starts.completes fun m hm => starting ⟨m, hm⟩
      have no_local : v.completeSweep.ownedLines .localWriter = [] :=
        ownedLines_local_of_initialPanes ((SameBesideEngine.completeSweep v).panes.trans starts.panes)
      rw [completes, settle_of_no_local no_local]
      exact health_completeSweep stale
  · rw [after.fresh]
    exact stale l
  · obtain ⟨h1, h2⟩ := starts.images (l := l) (by rw [hservice]; exact out)
    rw [h1, h2]
    exact ⟨congrArg (fun i : Image => i.get l) hpage.1, congrArg (fun i : Image => i.get l) hpage.2.1⟩
  · rw [starts.waits (by rw [hstate]; exact starting), starts.engine]
    exact ⟨by rw [hv]; rfl, rfl⟩
  · exact starts.idles (by rw [hstate]; exact none) (by rw [hservice]; exact out)

/-- The contents of the lines as the sweep begins. -/
theorem image_of_out {d : State} {i j : Image} {p : Line → Prop} [DecidablePred p] (out : ∀ l, d.outOfSweep l ↔ ¬ p l)
    (h : ∀ l, i.get l = if d.outOfSweep l then Table.fill 0 else j.get l) (l : Line) :
    i.get l = if p l then j.get l else Table.fill 0 := by
  rw [h l]
  by_cases hp : p l
  · rw [if_pos hp, if_neg fun o => (out l).1 o hp]
  · rw [if_neg hp, if_pos ((out l).2 hp)]

/-- Settles O30: the record is loaded, the modules are detected, and the sweep begins or is over. -/
theorem loadAfterPowerOnStartsTheSweep : Obligations.LoadAfterPowerOnStartsTheSweep := by
  refine ⟨⟨_, _, defaultTables, rfl⟩, rfl, ?_, ?_⟩
  · intro x within
    exact ⟨clampSettings_of_inRange x, inRange_clampSettings x, rfl⟩
  intro answers readings s stage start
  have load := start.load (by simp [State.loading, stage])
  obtain ⟨x, y, z, loaded, valid, invalid, hd⟩ := loaded_eq s answers readings
  obtain ⟨d, hdef⟩ : ∃ d, d = s.loadSettings.loadHealth.detect answers readings := ⟨_, rfl⟩
  rw [← hdef] at hd
  obtain ⟨staging, target, sensed, hs, ht, hn, sweeps⟩ := startSweep_eq d
  have goes : exec (.recordLoadComplete answers readings) s = .next (d.atSweep staging target sensed).continueSweep.settle := by
    show execRecordLoadComplete answers readings s = _
    simp only [execRecordLoadComplete, stage]
    rw [← hdef, sweeps]
  have entered := sweepEntered (d := d) (by rw [hd]; exact ⟨load.engine, rfl, load.writer, load.panes⟩) staging target sensed
  obtain ⟨t, ht'⟩ : ∃ t, t = (d.atSweep staging target sensed).continueSweep.settle := ⟨_, rfl⟩
  rw [← ht'] at goes entered
  have record : ∀ m, d.modules.records.get m = if answers.get m = true then ⟨.starting, some (readings.get m), some 50⟩
      else ⟨.absent, none, none⟩ := fun m => by
    rw [hd]
    exact Table.get_tab _ m
  have state : ∀ m, d.moduleState m = if answers.get m = true then .starting else .absent := fun m => by
    unfold State.moduleState
    rw [record]
    split <;> rfl
  have out : ∀ l, d.outOfSweep l ↔ ¬ answers.get (moduleOf l) = true := fun l => by
    unfold State.outOfSweep State.lineModule
    rw [state]
    cases answers.get (moduleOf l) <;> simp
  have unserved : ∀ l, d.lineInService l = false := fun l => by
    unfold State.lineInService State.lineModule
    rw [state]
    cases answers.get (moduleOf l) <;> rfl
  have hpage : d.page = s.page := by rw [hd]; rfl
  have hstaging := image_of_out out hs
  have htarget := image_of_out out ht
  have hsensed := image_of_out out hn
  have settings : t.settings = x := entered.same.settings.trans (by rw [hd]; rfl)
  have store : t.store = y := entered.same.store.trans (by rw [hd]; rfl)
  have health : t.health = z := entered.health.trans (by rw [hd]; rfl)
  have zones : t.zones = firstReadings s.zones answers.get := entered.same.zones.trans (by rw [hd]; rfl)
  have blank : ∀ l, answers.get (moduleOf l) = false → t.staging l = blankContent ∧ t.target l = blankContent ∧
      t.sensed l = blankContent := fun l hl => by
    obtain ⟨h1, h2⟩ := entered.images l (unserved l)
    refine ⟨h1.trans ?_, h2.trans ?_, (congrArg (fun i : Image => i.get l) entered.sensed).trans ?_⟩
    · exact (hstaging l).trans (if_neg (by simp [hl]))
    · exact (htarget l).trans (if_neg (by simp [hl]))
    · exact (hsensed l).trans (if_neg (by simp [hl]))
  refine ⟨t, goes, fun r hr => ?_, fun hr => ?_, ?_, fun m => ?_, fun zn => ?_, entered.fresh, blank, fun ⟨m, hm⟩ => ?_,
    fun none => ?_, staging, target, sensed, fun l => ?_, fun l => ?_, fun l => ?_, ?_⟩
  · rw [settings, health, store, (loaded.valid r hr).1, (loaded.valid r hr).2, valid r hr]
    exact ⟨rfl, rfl, rfl⟩
  · rw [settings, health, store, (loaded.invalid hr).1, (loaded.invalid hr).2, invalid hr]
    exact ⟨rfl, rfl, rfl⟩
  · exact entered.same.present.trans (by rw [hd]; rfl)
  · rw [entered.same.records]
    exact record m
  · rw [zones]
    unfold firstReadings
    rw [Table.get_tab]
    simp only [Bool.and_eq_true]
  · exact entered.waits ⟨m, by rw [state, if_pos hm]⟩
  · exact entered.idles (fun m => by rw [state, none m]; simp) unserved
  · exact (hstaging l).trans (by rw [State.staging, hpage])
  · exact (htarget l).trans (by rw [State.target, hpage])
  · exact (hsensed l).trans (by rw [State.sensed, hpage])
  · rw [goes, settings, health, store, zones, entered.same.records]
    have started := entered.goes
    rw [hd] at started ⊢
    exact started

end Sys2Proof.Machine
end

section
/-! SUPPORT. The load after a soft reset. -/

namespace Sys2Proof.Machine

open Host (Outcome)

/-- Settles O31: the settings alone are loaded, the modules named start again, and the sweep begins or is over. -/
theorem loadAfterSoftResetRestartsModules : Obligations.LoadAfterSoftResetRestartsModules := by
  intro answers readings mask s stage start
  have load := start.load (by simp [State.loading, stage])
  obtain ⟨x, y, loaded, hx⟩ := loadSettings_eq s
  obtain ⟨records, flags, hrecords, hrestart⟩ := restartModules_eq readings mask.members ((s.setSettings x).setStore y)
    load.engine (by show s.stage ≠ .running; rw [stage]; exact fun h => nomatch h)
  simp only [Table.mem_members] at hrecords
  have hd : s.loadSettings.restartModules mask readings =
      (((s.setSettings x).setStore y).setModules { s.modules with records := records }).setPage
        { s.page with fresh := flags } := by
    rw [hx]
    exact hrestart
  obtain ⟨d, hdef⟩ : ∃ d, d = s.loadSettings.restartModules mask readings := ⟨_, rfl⟩
  rw [← hdef] at hd
  obtain ⟨staging, target, sensed, hs, ht, hn, sweeps⟩ := startSweep_eq d
  have goes : exec (.recordLoadComplete answers readings) s = .next (d.atSweep staging target sensed).continueSweep.settle := by
    show execRecordLoadComplete answers readings s = _
    simp only [execRecordLoadComplete, stage]
    rw [← hdef, sweeps]
  have entered := sweepEntered (d := d) (by rw [hd]; exact ⟨load.engine, load.quiet, load.writer, load.panes⟩)
    staging target sensed
  obtain ⟨t, ht'⟩ : ∃ t, t = (d.atSweep staging target sensed).continueSweep.settle := ⟨_, rfl⟩
  rw [← ht'] at goes entered
  have record : ∀ m, d.modules.records.get m = if mask.get m = true then ⟨.starting, some (readings.get m), some 50⟩
      else s.modules.records.get m := fun m => by
    rw [hd]
    exact hrecords m
  have state : ∀ m, d.moduleState m = if mask.get m = true then .starting else s.moduleState m := fun m => by
    unfold State.moduleState
    rw [record]
    split <;> rfl
  have out : ∀ l, d.outOfSweep l ↔ mask.get (moduleOf l) = false ∧ (s.lineModule l = .absent ∨ s.lineModule l = .faulted) :=
    fun l => by
      unfold State.outOfSweep State.lineModule
      rw [state]
      cases mask.get (moduleOf l) <;> simp
  have unserved : ∀ l, d.outOfSweep l → d.lineInService l = false := fun l h => by
    unfold State.lineInService
    rcases h with h | h <;> rw [h] <;> rfl
  have settings : t.settings = x := entered.same.settings.trans (by rw [hd]; rfl)
  have store : t.store = y := entered.same.store.trans (by rw [hd]; rfl)
  have images : d.staging = s.staging ∧ d.target = s.target ∧ d.sensed = s.sensed := by
    rw [hd]
    exact ⟨rfl, rfl, rfl⟩
  obtain ⟨dstaging, dtarget, dsensed⟩ := images
  refine ⟨t, goes, fun r hr => ?_, fun hr => ?_, entered.health.trans (by rw [hd]; rfl),
    entered.same.present.trans (by rw [hd]; rfl), entered.same.zones.trans (by rw [hd]; rfl), fun m => ?_, entered.fresh,
    fun ⟨m, hm⟩ => entered.waits ⟨m, by rw [state, if_pos hm]⟩, ?_⟩
  · rw [settings, store, (loaded.valid r hr).1, (loaded.valid r hr).2]
    exact ⟨rfl, rfl⟩
  · rw [settings, store, (loaded.invalid hr).1, (loaded.invalid hr).2]
    exact ⟨rfl, rfl⟩
  · rw [entered.same.records]
    exact record m
  · intro gone
    refine ⟨fun l hl => ?_, fun none all => ?_, staging, target, sensed, fun l => ?_, fun l => ?_, fun l => ?_, ?_⟩
    · have ho := (out l).2 hl
      obtain ⟨h1, h2⟩ := entered.images l (unserved l ho)
      exact ⟨h1.trans ((hs l).trans (if_pos ho)), h2.trans ((ht l).trans (if_pos ho)),
        (congrArg (fun i : Image => i.get l) entered.sensed).trans ((hn l).trans (if_pos ho))⟩
    · have hout : ∀ l, d.outOfSweep l := fun l => (out l).2 ⟨none _, all _⟩
      refine entered.idles (fun m => ?_) fun l => unserved l (hout l)
      rw [state, none m]
      rcases all m with h | h <;> simp [h]
    · rw [hs l, dstaging]
      exact ⟨fun h => if_pos ((out l).2 h), fun h => if_neg fun o => h ((out l).1 o)⟩
    · rw [ht l, dtarget]
      exact ⟨fun h => if_pos ((out l).2 h), fun h => if_neg fun o => h ((out l).1 o)⟩
    · rw [hn l, dsensed]
      exact ⟨fun h => if_pos ((out l).2 h), fun h => if_neg fun o => h ((out l).1 o)⟩
    · rw [goes, settings, store, entered.same.records]
      have started := entered.goes
      rw [hd] at started ⊢
      exact started

end Sys2Proof.Machine
end

section
/-! SUPPORT. A choice enters no pin in the fault map: a line that it takes has fired at none. -/

namespace Sys2Proof.Machine

variable {s : State}

/-- The fault map. -/
abbrev State.faultMap (s : State) : List FaultEntry := s.health.faultMap

theorem recordFaults_of_unworked {c : Current} (unworked : ∀ p, (c.round.pins.get p).attempts = 0) :
    s.recordFaults c = s := by
  have none : pinsByCell.filter (s.exhausted c) = [] := List.filter_eq_nil_iff.2 fun p _ h => by
    have := ((exhausted_iff s c p).1 h).2.2.2
    rw [unworked p] at this
    omega
  unfold State.recordFaults
  rw [none]
  rfl

theorem faultMap_endRaise {c : Current} (unworked : ∀ p, (c.round.pins.get p).attempts = 0) :
    (s.endRaise c).1.faultMap = s.faultMap := by
  unfold State.endRaise
  split
  · rfl
  · unfold State.finishLine
    split
    · rw [recordFaults_of_unworked unworked]
      rfl
    · rfl

theorem faultMap_packOrWait (c : Current) : (s.packOrWait c).faultMap = s.faultMap := by
  unfold State.packOrWait
  split
  · rw [fire_eq]
    simp only [State.faultMap, State.setEngine_health, State.setModules_health, State.setPorts_health,
      State.setHealth_health]
  · rfl

theorem faultMap_packingPoint {c : Current} (unworked : ∀ p, (c.round.pins.get p).attempts = 0) :
    (s.packingPoint c).1.faultMap = s.faultMap := by
  unfold State.packingPoint
  split
  · obtain ⟨fresh, -, h⟩ := suspend_eq s c
    rw [h]
    rfl
  · split
    · exact faultMap_packOrWait c
    · split
      · exact faultMap_endRaise unworked
      · dsimp only
        split
        · exact faultMap_packOrWait _
        · refine faultMap_endRaise fun p => ?_
          simp [Round.enterPhase, unworked p]

theorem faultMap_takeLine (l : Line) : (s.takeLine l).1.faultMap = s.faultMap := by
  unfold State.takeLine
  dsimp only
  split
  · exact faultMap_packingPoint fun p => congrArg PinRound.attempts (Table.get_fill freshPin p)
  · rfl

theorem faultMap_chooseLoop (n : Nat) : ∀ s : State, (State.chooseLoop n s).faultMap = s.faultMap := by
  induction n with
  | zero => exact fun _ => rfl
  | succ n ih =>
    intro s
    rw [chooseLoop_succ]
    split
    · exact congrArg Health.faultMap (health_startReturn s)
    · split
      · exact congrArg Health.faultMap (health_closeDecision s none)
      · cases s.nextReady with
        | none => rfl
        | some l =>
          dsimp only
          split
          · exact (ih _).trans (faultMap_takeLine l)
          · exact faultMap_takeLine l

theorem faultMap_kick (s : State) : s.kick.faultMap = s.faultMap := by
  unfold State.kick
  split
  · split
    · rfl
    · exact faultMap_chooseLoop _ s
  · rfl

theorem health_appendLines (ls : List Line) : ∀ s : State, (s.appendLines ls).health = s.health := by
  induction ls with
  | nil => exact fun _ => rfl
  | cons l ls ih =>
    intro s
    refine (ih (s.appendLine l)).trans ?_
    unfold State.appendLine
    split <;> rfl

theorem health_openRefresh (s : State) (who : Requesters) (ls : List Line) : (s.openRefresh who ls).health = s.health :=
  (health_appendLines ls _).trans rfl

theorem health_sendClosed (s : State) (r : Refresh) (o : CloseOutcome) (e : Option Identity) :
    (s.sendClosed r o e).health = s.health := by
  rw [sendClosed_eq]
  rfl

theorem health_mergeRefresh (s : State) (r : Refresh) (who : Identity) (ls : List Line) :
    (s.mergeRefresh r who ls).health = s.health := by
  unfold State.mergeRefresh
  dsimp only
  refine Eq.trans ?_ (health_sendClosed s r .superseded none)
  exact (health_appendLines ls _).trans rfl

theorem health_commitLines (ls : List Line) : ∀ s : State, (s.commitLines ls).health = s.health := by
  induction ls with
  | nil => exact fun _ => rfl
  | cons l ls ih => exact fun s => (ih (s.commitLine l)).trans rfl

theorem faultMap_handLines (s : State) (who : Identity) (ls : List Line) : (s.handLines who ls).faultMap = s.faultMap := by
  unfold State.handLines
  split
  · rfl
  · split
    · exact (faultMap_kick _).trans (congrArg Health.faultMap (health_openRefresh s _ ls))
    · exact (faultMap_kick _).trans (congrArg Health.faultMap (health_mergeRefresh s _ who ls))

theorem faultMap_commit (s : State) (who : Identity) (ls : List Line) : (s.commit who ls).faultMap = s.faultMap :=
  (faultMap_handLines _ who _).trans (congrArg Health.faultMap (health_commitLines ls s))

theorem faultMap_recompute (s : State) : s.recompute.faultMap = s.faultMap := by
  have writes : ∀ (content : Line → Content) (ls : List Line) (s : State),
      (ls.foldl (fun s l => s.putStaging l (content l)) s).health = s.health := fun content ls => by
    induction ls with
    | nil => exact fun _ => rfl
    | cons l ls ih => exact fun s => (ih _).trans rfl
  unfold State.recompute
  dsimp only
  split
  · rfl
  · exact (faultMap_commit _ _ _).trans (congrArg Health.faultMap (writes _ _ s))

theorem faultMap_answerPrompt (s : State) : s.answerPrompt.faultMap = s.faultMap := by
  unfold State.answerPrompt
  dsimp only
  split
  · split
    · exact faultMap_recompute _
    · rfl
  · rfl

theorem faultMap_answerPrompts (n : Nat) : ∀ s : State, (State.answerPrompts n s).faultMap = s.faultMap := by
  induction n with
  | zero => exact fun _ => rfl
  | succ n ih =>
    intro s
    unfold State.answerPrompts
    split
    · exact (ih _).trans (faultMap_answerPrompt s)
    · rfl

theorem faultMap_settle (s : State) : s.settle.faultMap = s.faultMap := by
  unfold State.settle
  dsimp only
  split
  · exact faultMap_answerPrompt s
  · exact faultMap_answerPrompts _ s

end Sys2Proof.Machine
end

section
/-! SUPPORT. The clearing of fault map entries. -/

namespace Sys2Proof.Machine

open Host (Outcome)

variable {s : State}

theorem clearFresh_foldl (ls : List Line) : ∀ s : State, ∃ fresh : LineSet,
    (∀ l, fresh.get l = true ↔ s.page.fresh.get l = true ∧ l ∉ ls) ∧
    ls.foldl State.clearFresh s = s.setPage { s.page with fresh := fresh } := by
  induction ls with
  | nil => exact fun s => ⟨s.page.fresh, fun l => by simp, rfl⟩
  | cons k ls ih =>
    intro s
    obtain ⟨fresh, hf, he⟩ := ih (s.clearFresh k)
    refine ⟨fresh, fun l => (hf l).trans ?_, he⟩
    show (s.page.fresh.set k false).get l = true ∧ _ ↔ _
    rw [Table.get_set]
    by_cases hl : l = k
    · subst hl
      simp
    · simp [hl, Ne.symm hl]

theorem promptIf_eq (s : State) (b : Bool) : s.promptIf b = s.setWriter { s.writer with prompt := s.writer.prompt || b } := by
  cases b with
  | true => simp [State.promptIf, State.promptWriter]
  | false => simp [State.promptIf]; rfl

theorem clearTest_of_pin {line cell dot : Byte} {ln : Line} {c : Cell} {d : Dot} (hl : line.toNat = ln.val)
    (hc : cell.toNat = c.val) (hd : dot.toNat = d.val + 1) :
    clearTest [line, cell, dot] = .ok fun e => decide (faultPin e = (ln, c, d)) := by
  have hdot : dotOfByte dot = some d := by simp [dotOfByte, hd]
  simp only [clearTest, lineOf_of_toNat hl, cellOfByte_of_toNat hc, hdot]
  congr 1
  funext e
  simp [faultPin, Bool.and_assoc, Bool.beq_eq_decide_eq]

theorem clearTest_outside {line cell dot : Byte}
    (h : 23 < line.toNat ∨ 39 < cell.toNat ∨ dot.toNat < 1 ∨ 8 < dot.toNat) :
    clearTest [line, cell, dot] = .error .outOfRange := by
  simp only [clearTest]
  split
  · rename_i ln c d hl hc hd
    have noDot : ¬ (dot.toNat < 1 ∨ 8 < dot.toNat) := fun bad => by
      unfold dotOfByte at hd
      rw [dif_neg (by omega)] at hd
      cases hd
    have noLine : ¬ 23 < line.toNat := fun bad => by
      rw [(lineOf_eq_none_iff line).2 bad] at hl
      cases hl
    have noCell : ¬ 39 < cell.toNat := fun bad => by
      rw [(cellOfByte_eq_none_iff cell).2 bad] at hc
      cases hc
    omega
  · rfl

/-- The lines that lose an entry. -/
def State.clearedLines (s : State) (test : FaultEntry → Bool) : List Line :=
  allLines.filter fun l => (s.faultMap.filter test).any fun e => e.line == l

theorem mem_clearedLines (s : State) (test : FaultEntry → Bool) (l : Line) :
    l ∈ s.clearedLines test ↔ ∃ e ∈ s.faultMap, test e = true ∧ e.line = l := by
  simp [State.clearedLines, mem_allLines]

theorem faultMapped_iff (s : State) (l : Line) (p : LinePin) : s.faultMapped l p = true ↔
    ∃ e ∈ s.faultMap, faultPin e = (l, cellOf p, dotOf p) := by
  simp [State.faultMapped, faultPin, and_assoc]

/-- The board with the entries cleared, before the catch-up. -/
def State.faultsCleared (s : State) (test : FaultEntry → Bool) (fresh : LineSet) : State :=
  ((s.setHealth { s.health with faultMap := s.health.faultMap.filter fun e => !test e }).setPage
    { s.page with fresh := fresh }).setWriter
    { s.writer with prompt := s.writer.prompt || s.engine.refresh.isNone }

theorem clearFaults_eq {test : FaultEntry → Bool} (some : 0 < s.faultMap.countP test) : ∃ fresh : LineSet,
    (∀ l, fresh.get l = true ↔ s.page.fresh.get l = true ∧ l ∉ s.clearedLines test) ∧
    s.clearFaults test = ((s.faultsCleared test fresh).catchUp
      ((s.clearedLines test).filter (s.faultsCleared test fresh).lineUndone)).kick := by
  have removed : (s.health.faultMap.filter test).isEmpty = false := by
    rw [List.isEmpty_eq_false_iff, ← List.length_pos_iff, ← List.countP_eq_length_filter]
    exact some
  obtain ⟨fresh, hf, he⟩ := clearFresh_foldl (s.clearedLines test)
    ((s.setHealth { s.health with faultMap := s.health.faultMap.filter fun e => !test e }).promptIf
      (!(s.health.faultMap.filter test).isEmpty && s.engine.refresh.isNone))
  have hpage : ((s.setHealth { s.health with faultMap := s.health.faultMap.filter fun e => !test e }).promptIf
      (!(s.health.faultMap.filter test).isEmpty && s.engine.refresh.isNone)).page = s.page := by
    rw [promptIf_eq]
    rfl
  rw [hpage] at hf he
  refine ⟨fresh, hf, ?_⟩
  have cleared : (s.clearedLines test).foldl State.clearFresh
      ((s.setHealth { s.health with faultMap := s.health.faultMap.filter fun e => !test e }).promptIf
        (!(s.health.faultMap.filter test).isEmpty && s.engine.refresh.isNone)) = s.faultsCleared test fresh := by
    rw [he, promptIf_eq, removed]
    rfl
  rw [← cleared]
  rfl

theorem lineUndone_faultsCleared (s : State) (test : FaultEntry → Bool) (fresh : LineSet) (l : Line) :
    (s.faultsCleared test fresh).lineUndone l = true ↔ ∃ p, pinState (s.target l) p ≠ pinState (s.sensed l) p ∧
      ∀ e ∈ s.health.faultMap, test e = false → faultPin e ≠ (l, cellOf p, dotOf p) := by
  rw [lineUndone_iff]
  refine exists_congr fun p => and_congr_right fun _ => ?_
  rw [← Bool.not_eq_true, faultMapped_iff]
  show ¬ (∃ e ∈ s.health.faultMap.filter _, _) ↔ _
  simp only [List.mem_filter, Bool.not_eq_true', not_exists, not_and]
  exact ⟨fun h e he ht => h e ⟨he, ht⟩, fun h e ⟨he, ht⟩ => h e he ht⟩

theorem serveFaultClear_eq {l : Link} {f : Frame} {test : FaultEntry → Bool} (h : clearTest f.payload = .ok test) :
    serveFaultClear l s f =
      if s.health.faultMap.countP test = 0 then
        .ok (s.sendReply l f.tag (.faultsCleared (s.health.faultMap.countP test)
          (s.health.faultMap.length - s.health.faultMap.countP test)))
      else .ok ((s.sendReply l f.tag (.faultsCleared (s.health.faultMap.countP test)
        (s.health.faultMap.length - s.health.faultMap.countP test))).clearFaults test).settle := by
  simp only [serveFaultClear, h]

theorem beside_answered (s : State) (l : Link) (f : Frame) (r : Reply) : SameBesideEngine s (s.answered l f r) :=
  (SameBesideEngine.setPort s l _).trans (.setPort _ l _)

/-- Settles O25: the entries leave the map, their lines' fresh flags fall, and those undone are caught up. -/
theorem faultClearRemovesEntries : Obligations.FaultClearRemovesEntries := by
  refine ⟨fun f s line cell dot hp htake bad => ?_, ?_⟩
  · refine take_of_refused (serve := serveFaultClear .station) htake ?_
    simp only [serveFaultClear, hp, clearTest_outside bad]
  · intro f s test htake htest removed left
    have named : clearTest f.payload = .ok test := by
      rcases htest with ⟨hp, ht⟩ | ⟨line, cell, dot, ln, c, d, hp, hl, hc, hd, ht⟩
      · rw [hp, ht]
        rfl
      · rw [hp, clearTest_of_pin hl hc hd, ht]
    obtain ⟨a, ha⟩ : ∃ a, a = s.answered .station f (.faultsCleared removed left) := ⟨_, rfl⟩
    have beside : SameBesideEngine s a := ha ▸ beside_answered s .station f _
    have hhealth : a.health = s.health := by rw [ha]; rfl
    have hpage : a.page = s.page := by rw [ha]; rfl
    have carries : (a.port .station).carries (.reply f.tag (.faultsCleared removed left)) :=
      ha ▸ carries_answered s .station f _
    have served := serveFaultClear_eq (l := .station) (s := s.popFrame .station) named
    by_cases empty : removed = 0
    · have goes : exec (.faultClear .station) s = .next a := by
        refine take_of_served (serve := serveFaultClear .station) htake (served.trans ?_)
        rw [if_pos (by exact empty), ha]
        rfl
      have keepsAll : ∀ e ∈ s.health.faultMap, test e ≠ true := List.countP_eq_zero.1 empty
      refine ⟨fun _ => by rw [goes, ha, empty], a, goes, ?_, congrArg Health.trims hhealth, congrArg PageStore.sensed hpage,
        fun e he ht => absurd ht (keepsAll e he), carries, beside, ?_⟩
      · rw [hhealth]
        exact (List.filter_eq_self.2 fun e he => by simpa using keepsAll e he).symm
      · intro _ some
        omega
    · have goes : exec (.faultClear .station) s = .next (a.clearFaults test).settle := by
        refine take_of_served (serve := serveFaultClear .station) htake (served.trans ?_)
        rw [if_neg (by exact empty), ha]
        rfl
      obtain ⟨fresh, hfresh, clears⟩ := clearFaults_eq (s := a) (test := test)
        (by rw [State.faultMap, hhealth]; exact Nat.pos_of_ne_zero empty)
      rw [clears] at goes
      have sorted : ((a.clearedLines test).filter (a.faultsCleared test fresh).lineUndone).Pairwise (· < ·) :=
        (pairwise_filter_allLines _).filter _
      have mem : ∀ l, l ∈ a.clearedLines test ↔ ∃ e ∈ s.health.faultMap, test e = true ∧ e.line = l := fun l => by
        rw [mem_clearedLines, State.faultMap, hhealth]
      have undone : ∀ l, (a.faultsCleared test fresh).lineUndone l = true ↔
          ∃ p, pinState (s.target l) p ≠ pinState (s.sensed l) p ∧
            ∀ e ∈ s.health.faultMap, test e = false → faultPin e ≠ (l, cellOf p, dotOf p) := fun l => by
        rw [lineUndone_faultsCleared, hhealth, State.target, State.sensed, hpage]
        rfl
      obtain ⟨named, hnamed⟩ : ∃ named, named = (a.clearedLines test).filter (a.faultsCleared test fresh).lineUndone :=
        ⟨_, rfl⟩
      obtain ⟨u, hu⟩ : ∃ u, u = a.faultsCleared test fresh := ⟨_, rfl⟩
      rw [← hu] at goes hnamed undone
      rw [← hnamed] at goes
      have once : named.Nodup := nodup_of_pairwise_lt (hnamed ▸ hu ▸ sorted)
      have after := ((aftermath_catchUp u once).trans (Aftermath.kick _)).settle
      have ufresh : u.page.fresh = fresh := by rw [hu]; rfl
      have umap : u.faultMap = s.health.faultMap.filter fun e => !test e := by rw [hu, ← hhealth]; rfl
      have usame : SameBesideEngine a u := hu ▸ ⟨rfl, rfl, rfl, rfl, rfl, rfl, rfl, rfl, rfl, rfl⟩
      have run : BlockRun u ((u.catchUp named).kick).settle :=
        Relation.ReflTransGen.trans (BlockRun.catchUp u named) ((BlockRun.kick _).trans (BlockRun.settle _))
      have upPort : u.port .station = a.port .station := by rw [hu]; rfl
      refine ⟨fun h => absurd h empty, _, goes, ?_, after.same.trims.trans (usame.trims.trans beside.trims),
        after.sensed.trans (by rw [hu, ← hpage]; rfl), fun e he ht => ?_,
        (BlockRun.port run .station).carries _ _ (upPort ▸ carries), beside.trans (usame.trans after.same), ?_⟩
      · rw [← umap]
        have caught : (u.catchUp named).faultMap = u.faultMap := by
          unfold State.catchUp
          split
          · exact congrArg Health.faultMap (health_appendLines named u)
          · split
            · exact congrArg Health.faultMap (health_openRefresh u _ named)
            · rfl
        exact (faultMap_settle _).trans ((faultMap_kick _).trans caught)
      · rw [after.fresh, ufresh, ← Bool.not_eq_true, hfresh]
        exact fun h => h.2 ((mem _).2 ⟨e, he, ht, rfl⟩)
      · intro cleared _
        refine ⟨u, u.catchUp named, named, ?_, fun l => ?_, hnamed ▸ hu ▸ sorted, fun l => ?_, catchesUp_catchUp u named once,
          goes ▸ choosesFrom_kick _⟩
        · rw [ufresh, hu, ha]
          rfl
        · rw [ufresh, hfresh, hpage, mem]
        · rw [hnamed, List.mem_filter, mem, undone]

end Sys2Proof.Machine
end

section
/-! SUPPORT. The end of an event with a refresh open or an operation in flight. -/

namespace Sys2Proof.Machine

open Host (Outcome)

variable {s : State}

/-! ### The end of an event -/

theorem answerPrompt_of_open (opened : s.engine.refresh.isSome) :
    s.answerPrompt = s.setWriter { s.writer with prompt := false } := by
  obtain ⟨r, hr⟩ := Option.isSome_iff_exists.1 opened
  cases h : s.writer.prompt with
  | false =>
    rw [answerPrompt_of_no_prompt h, ← h]
    rfl
  | true => simp [State.answerPrompt, h, hr]

/-- One answer ends the event where it leaves no prompt. -/
theorem settle_of_answered (h : s.answerPrompt.writer.prompt = false) : s.settle = s.answerPrompt := by
  cases hp : s.writer.prompt with
  | false => rw [settle_of_no_prompt hp, answerPrompt_of_no_prompt hp]
  | true =>
    have once : State.answerPrompts Config.recomputeLimit s = s.answerPrompt := by
      show State.answerPrompts (4095 + 1) s = _
      rw [State.answerPrompts, if_pos hp, answerPrompts_of_no_prompt _ h]
    unfold State.settle
    rw [once]
    simp only [ite_self]

/-- A prompt is dropped while a refresh is open. -/
theorem settle_of_open (opened : s.engine.refresh.isSome) :
    s.settle = s.setWriter { s.writer with prompt := false } := by
  rw [settle_of_answered (by rw [answerPrompt_of_open opened]; rfl), answerPrompt_of_open opened]

theorem kick_of_busy (busy : s.quiet = false) : s.kick = s := by simp [State.kick, busy]

/-- What a commit with an operation in flight leaves. -/
structure BusyKept (s t : State) : Prop where
  writer : t.writer = s.writer
  ports : t.ports = s.ports
  health : t.health = s.health
  modules : t.modules = s.modules

theorem BusyKept.trans {s t u : State} (h : BusyKept s t) (k : BusyKept t u) : BusyKept s u :=
  ⟨k.writer.trans h.writer, k.ports.trans h.ports, k.health.trans h.health, k.modules.trans h.modules⟩

theorem busyKept_foldl {α : Type} (f : State → α → State) (hf : ∀ s a, BusyKept s (f s a)) (l : List α) :
    ∀ s, BusyKept s (l.foldl f s) := by
  induction l with
  | nil => exact fun _ => ⟨rfl, rfl, rfl, rfl⟩
  | cons a l ih => exact fun s => (hf s a).trans (ih (f s a))

theorem busyKept_openRefresh (s : State) (who : Requesters) (ls : List Line) : BusyKept s (s.openRefresh who ls) := by
  refine BusyKept.trans (t := (s.setEngine { s.engine with
    generation := s.engine.generation + 1, refresh := some (openRecord who), auditInterval := none }).setReservoir
    s.reservoir.refreshOpens) ⟨rfl, rfl, rfl, rfl⟩ (busyKept_foldl _ (fun t l => ?_) ls _)
  unfold State.appendLine
  split <;> exact ⟨rfl, rfl, rfl, rfl⟩

theorem refresh_commitLines (ls : List Line) : ∀ s : State, (s.commitLines ls).engine.refresh = s.engine.refresh := by
  induction ls with
  | nil => exact fun _ => rfl
  | cons l ls ih => exact fun s => (ih (s.commitLine l)).trans rfl

theorem busyKept_commit (busy : s.quiet = false) (closed : s.engine.refresh = none) (who : Identity) (ls : List Line) :
    BusyKept s (s.commit who ls) := by
  have lines : BusyKept s (s.commitLines ls) := busyKept_foldl State.commitLine (fun _ _ => ⟨rfl, rfl, rfl, rfl⟩) ls s
  unfold State.commit State.handLines
  split
  · exact lines
  · rw [refresh_commitLines, closed]
    have opens := lines.trans (busyKept_openRefresh _ (onlyRequester who) (s.dirtyLines ls))
    rw [kick_of_busy (by rw [← busy, State.quiet, State.quiet, opens.modules])]
    exact opens

theorem busyKept_recompute (busy : s.quiet = false) (closed : s.engine.refresh = none) : BusyKept s s.recompute := by
  unfold State.recompute
  dsimp only
  split
  · exact ⟨rfl, rfl, rfl, rfl⟩
  · obtain ⟨t, ht⟩ : ∃ t, t = (s.ownedLines .localWriter).foldl (fun t l => t.putStaging l (s.composed l)) s := ⟨_, rfl⟩
    have written : BusyKept s t ∧ t.engine = s.engine := by
      rw [ht]
      generalize s.ownedLines .localWriter = ls
      refine ⟨busyKept_foldl (fun t l => t.putStaging l (s.composed l)) (fun _ _ => ⟨rfl, rfl, rfl, rfl⟩) ls s, ?_⟩
      have engine : ∀ (g : Line → Content) (ls : List Line) (t : State),
          (ls.foldl (fun t l => t.putStaging l (g l)) t).engine = t.engine := fun g ls => by
        induction ls with
        | nil => exact fun _ => rfl
        | cons l ls ih => exact fun t => (ih _).trans rfl
      exact engine s.composed ls s
    rw [← ht]
    exact written.1.trans (busyKept_commit (by rw [← busy, State.quiet, State.quiet, written.1.modules])
      (by rw [written.2]; exact closed) _ _)

theorem answerPrompt_of_closed (prompt : s.writer.prompt = true) (closed : s.engine.refresh = none)
    (running : s.stage = .running) :
    s.answerPrompt = (s.setWriter { s.writer with prompt := false }).recompute := by
  simp [State.answerPrompt, prompt, closed, running]

theorem answerPrompt_of_starting (starting : s.stage ≠ .running) :
    s.answerPrompt = s.setWriter { s.writer with prompt := false } := by
  cases h : s.writer.prompt with
  | false =>
    rw [answerPrompt_of_no_prompt h, ← h]
    rfl
  | true =>
    have : (s.stage == Stage.running) = false := by simpa using starting
    simp [State.answerPrompt, h, this]

/-- With an operation in flight an event ends with one answer, which tells nothing. -/
theorem settle_of_busy (busy : s.quiet = false) : s.settle = s.answerPrompt ∧
    BusyKept (s.setWriter { s.writer with prompt := false }) s.answerPrompt := by
  have kept : BusyKept (s.setWriter { s.writer with prompt := false }) s.answerPrompt := by
    by_cases opened : s.engine.refresh.isSome
    · rw [answerPrompt_of_open opened]
      exact ⟨rfl, rfl, rfl, rfl⟩
    · by_cases running : s.stage = .running
      · cases prompt : s.writer.prompt with
        | false =>
          rw [answerPrompt_of_no_prompt prompt, ← prompt]
          exact ⟨rfl, rfl, rfl, rfl⟩
        | true =>
          have closed : s.engine.refresh = none := by simpa using opened
          rw [answerPrompt_of_closed prompt closed running]
          exact busyKept_recompute (s := s.setWriter { s.writer with prompt := false }) busy closed
      · rw [answerPrompt_of_starting running]
        exact ⟨rfl, rfl, rfl, rfl⟩
  exact ⟨settle_of_answered (by rw [kept.writer]; rfl), kept⟩

theorem ports_settle_of_busy (busy : s.quiet = false) : s.settle.ports = s.ports := by
  obtain ⟨h, kept⟩ := settle_of_busy busy
  rw [h]
  exact kept.ports

end Sys2Proof.Machine
end

section
/-! SUPPORT. The release of a zone. -/

namespace Sys2Proof.Machine

open Host (Outcome)

variable {s u : State} {z : ZoneId}

/-- The board with the zone released and told of, before the stale zone set is looked at. -/
def State.zoneReleased (s : State) (z : ZoneId) : State :=
  ((s.setZones (s.zones.set z ⟨.clear, (s.zones.get z).present⟩)).setPage
    { s.page with fresh := s.page.fresh.set (zoneLine z) false }).setPorts (s.portsTouched z .released)

theorem exec_releaseTimerExpiry (releasing : (s.zones.get z).state = .releasing) :
    exec (.releaseTimerExpiry z) s = .next ((s.zoneReleased z).releaseStale z).settle := by
  refine (if_pos releasing).trans ?_
  rw [touchNotice_eq]
  rfl

/-- The zone out of the stale zone set, with the prompt that this raises where no refresh is open. -/
def State.staleLeft (s : State) (z : ZoneId) : State :=
  (s.setWriter { s.writer with prompt := s.writer.prompt || s.engine.refresh.isNone }).setEngine
    { s.engine with stale := s.engine.stale.set z false }

theorem releaseStale_of_stale (stale : s.engine.stale.get z = true) :
    s.releaseStale z = ((s.staleLeft z).catchUp [zoneLine z]).kick := by
  unfold State.releaseStale
  rw [if_pos stale, promptIf_eq]
  rfl

theorem releaseStale_of_fresh (h : s.engine.stale.get z = false) : s.releaseStale z = s :=
  if_neg (by simp [h])

theorem CatchesUp.stale {ls : List Line} (h : CatchesUp s ls u) : u.engine.stale = s.engine.stale := by
  cases hr : s.engine.refresh with
  | some r =>
    obtain ⟨_, _, rfl⟩ := h.joins r hr
    rfl
  | none =>
    by_cases some : ∃ l ∈ ls, s.lineInService l = true
    · obtain ⟨_, _, rfl⟩ := h.opens hr some
      rfl
    · rw [h.nothing hr fun l hl => by simpa using fun hs => some ⟨l, hl, hs⟩]

theorem CatchesUp.beside {ls : List Line} (h : CatchesUp s ls u) : u.ports = s.ports ∧ u.modules = s.modules ∧
    u.writer = s.writer ∧ u.page = s.page ∧ u.stage = s.stage := by
  cases hr : s.engine.refresh with
  | some r =>
    obtain ⟨_, _, rfl⟩ := h.joins r hr
    exact ⟨rfl, rfl, rfl, rfl, rfl⟩
  | none =>
    by_cases some : ∃ l ∈ ls, s.lineInService l = true
    · obtain ⟨_, _, rfl⟩ := h.opens hr some
      exact ⟨rfl, rfl, rfl, rfl, rfl⟩
    · rw [h.nothing hr fun l hl => by simpa using fun hs => some ⟨l, hl, hs⟩]
      exact ⟨rfl, rfl, rfl, rfl, rfl⟩

/-- A zone that is not guarded stays out of the stale zone set. -/
theorem stale_run {W : Line → Prop} {t : State} (run : EngineRun W s t) (out : s.engine.stale.get z = false)
    (free : s.guarded z = false) : t.engine.stale.get z = false := by
  rw [← Bool.not_eq_true]
  intro h
  rcases (EngineRun.shift run).stale z h with h | ⟨h, -⟩
  · rw [out] at h; cases h
  · rw [free] at h; cases h

theorem mayChoose_of_kick (h : s.mayChoose) : s.kick = s.choose := by
  obtain ⟨opened, quiet, current, deferred⟩ := h
  unfold State.kick
  rw [if_pos (by simp [opened, quiet, current]), if_neg fun h => deferred h.1 h.2]

theorem EngineOk.returnList_nil (h : EngineOk s) (state : s.engine.state = .idle ∨ s.engine.state = .deferred ∨
    s.engine.state = .held) : s.engine.returnList = [] := h.returns state

/-- A single line in the queue, in service and not fresh, is sensed or waits for its module; in either case the event
is over. -/
theorem settle_choose_single {l : Line} (queue : s.engine.queue = [l]) (returns : s.engine.returnList = [])
    (stale : s.page.fresh.get l = false) (opened : s.engine.refresh.isSome) :
    s.choose.settle.engine.refresh = s.engine.refresh ∧ s.choose.settle.engine.generation = s.engine.generation ∧
      s.choose.settle.engine.queue = [l] := by
  by_cases ready : s.lineModule l = .ready
  · rw [choose_of_first (before := []) (after := []) returns queue (by simp) ready stale]
    rw [settle_of_open (by exact opened)]
    exact ⟨rfl, rfl, queue⟩
  · rw [choose_of_none_ready returns (by rw [queue]; exact List.cons_ne_nil _ _)
      (by rw [queue]; simpa using ready)]
    rw [settle_of_open (by exact opened)]
    exact ⟨rfl, rfl, queue⟩

/-- An engine in DEFERRED rests. -/
theorem EngineOk.rests_of_deferred (h : EngineOk s) (state : s.engine.state = .deferred) :
    s.engine.refresh.isSome ∧ s.engine.queue = [] ∧ s.quiet = true ∧ s.engine.current = none ∧
      s.engine.returnList = [] := by
  obtain ⟨opened, queue⟩ := h.deferred state
  refine ⟨opened, queue, ?_, ?_, h.returns (Or.inr (Or.inl state))⟩
  · cases h.phase (h.started opened) with
    | busy o op st => rw [state] at st; cases o <;> cases st
    | waiting c quiet => rw [quiet_iff]; exact quiet
    | rest quiet => rw [quiet_iff]; exact quiet
  · cases hc : s.engine.current with
    | none => rfl
    | some c =>
      have := h.current c hc
      rw [queue] at this
      cases this

/-- An engine with no refresh open and nothing in flight has no line waiting for its return sense. -/
theorem EngineOk.returnList_of_closed (h : EngineOk s) (running : s.stage = .running)
    (closed : s.engine.refresh = none) (quiet : s.quiet = true) : s.engine.returnList = [] := by
  cases h.phase running with
  | busy o op => rw [quiet_iff, op] at quiet; cases quiet
  | waiting c _ _ _ _ opened => rw [closed] at opened; cases opened
  | rest _ _ _ returns => exact returns

/-- Settles O36: the zone is released and told of; out of the stale zone set its line is caught up. -/
theorem releaseEventServesTheZone : Obligations.ReleaseEventServesTheZone := by
  intro z s releasing ok line zone told
  obtain ⟨c, hc⟩ : ∃ c, c = s.zoneReleased z := ⟨_, rfl⟩
  have goes : exec (.releaseTimerExpiry z) s = .next (c.releaseStale z).settle := hc ▸ exec_releaseTimerExpiry releasing
  have cleared : c = ((s.setZones (s.zones.set z zone)).setPage
      { s.page with fresh := s.page.fresh.set line false }).setPorts told := hc
  have cengine : c.engine = s.engine := by rw [cleared]; rfl
  have cwriter : c.writer = s.writer := by rw [cleared]; rfl
  have cquiet : c.quiet = s.quiet := by rw [cleared]; rfl
  have cports : c.ports = told := by rw [cleared]; rfl
  have cfresh : c.page.fresh.get line = false := by rw [cleared]; exact Table.get_set_same _ _ _
  have cservice : c.lineInService = s.lineInService := by rw [cleared]; rfl
  have cmodule : c.lineModule = s.lineModule := by rw [cleared]; rfl
  have cfree : c.guarded z = false := by
    rw [← Bool.not_eq_true, guarded_iff]
    rintro ⟨-, h⟩
    rw [cleared] at h
    have clear : ((s.zones.set z zone).get z).state = .clear := by rw [Table.get_set_same]
    rcases h with h | h | h <;> exact absurd (clear.symm.trans h) (by decide)
  obtain ⟨v, hv⟩ : ∃ v, v = c.staleLeft z := ⟨_, rfl⟩
  have vstale : v.engine.stale.get z = false := by rw [hv]; exact Table.get_set_same _ _ _
  have caught := catchesUp_catchUp v [line] (List.nodup_singleton line)
  obtain ⟨u, hu⟩ : ∃ u, u = v.catchUp [line] := ⟨_, rfl⟩
  rw [← hu] at caught
  obtain ⟨uports, umodules, uwriter, upage, ustage⟩ := caught.beside
  have vbeside : SameBesideEngine c v := hv ▸ (SameBesideEngine.setWriter c _).trans (.setEngine _ _)
  have ubeside : SameBesideEngine v u := hu ▸ .catchUp v _
  have served : c.engine.stale.get z = true → exec (.releaseTimerExpiry z) s = .next u.kick.settle := fun stale => by
    rw [goes, releaseStale_of_stale stale, ← hv, hu]
  have unserved : c.engine.stale.get z = false → exec (.releaseTimerExpiry z) s = .next c.settle := fun h => by
    rw [goes, releaseStale_of_fresh h]
  have after : Aftermath c (c.releaseStale z).settle ∧ (c.releaseStale z).settle.engine.stale.get z = false := by
    cases stale : c.engine.stale.get z with
    | false =>
      rw [releaseStale_of_fresh stale]
      exact ⟨(Aftermath.refl c).settle, stale_run (EngineRun.settle c (Workable.all c)) stale cfree⟩
    | true =>
      rw [releaseStale_of_stale stale, ← hv]
      have left : Aftermath c v := ⟨vbeside, by rw [hv]; rfl, by rw [hv]; rfl, by rw [hv]; exact Nat.le_refl _,
        fun l hl => Or.inl (by rw [hv] at hl; exact hl), fun l hl => by rw [hv] at hl; exact hl⟩
      refine ⟨((left.trans (aftermath_catchUp v (List.nodup_singleton _))).trans (Aftermath.kick _)).settle, ?_⟩
      have ufree : u.guarded z = false := by
        rw [← cfree]
        unfold State.guarded
        rw [ubeside.settings, ubeside.zones, vbeside.settings, vbeside.zones]
      rw [show v.catchUp [zoneLine z] = u from hu.symm]
      exact stale_run (Relation.ReflTransGen.trans (EngineRun.kick u (Workable.all u))
        (EngineRun.settle _ (Workable.all _))) (by rw [caught.stale]; exact vstale) ufree
  obtain ⟨t, ht⟩ : ∃ t, t = (c.releaseStale z).settle := ⟨_, rfl⟩
  rw [← ht] at goes after
  obtain ⟨after, gone⟩ := after
  have is : ∀ {w : State}, exec (.releaseTimerExpiry z) s = .next w → t = w := fun h => Outcome.next.inj (goes.symm.trans h)
  have vengine : v.engine = { s.engine with stale := s.engine.stale.set z false } := by
    rw [hv, ← cengine]
    rfl
  have vservice : v.lineInService = s.lineInService := vbeside.lineInService.trans cservice
  have uline : u.page.fresh.get line = false := by rw [upage, hv]; exact cfresh
  have umodule : u.lineModule = s.lineModule := by
    rw [← cmodule]
    unfold State.lineModule State.moduleState
    rw [umodules, hv]
    rfl
  have uquiet : u.quiet = s.quiet := by
    rw [← cquiet]
    unfold State.quiet
    rw [umodules, hv]
    rfl
  have utold : u.ports = told := by rw [uports, hv]; exact cports
  rw [← cengine] at vengine
  refine ⟨t, goes, after.same.zones.trans (by rw [cleared]; rfl), by rw [after.fresh]; exact cfresh, gone,
    after.sensed.trans (by rw [cleared]; rfl), after.same.settings.trans (by rw [cleared]; rfl),
    after.same.panes.trans (by rw [cleared]; rfl), after.same.store.trans (by rw [cleared]; rfl),
    after.same.records.trans (by rw [cleared]; rfl), ?_⟩
  rw [← cengine, ← cwriter]
  have joins : ∀ r, c.engine.refresh = some r → s.lineInService line = true → ∃ w,
      u = v.setEngine w ∧ w.refresh.isSome ∧ w.generation = c.engine.generation ∧ w.state = c.engine.state ∧
        w.current = c.engine.current ∧ w.returnList = c.engine.returnList ∧
        w.queue = if line ∈ c.engine.queue then c.engine.queue else c.engine.queue ++ [line] := fun r hr service => by
    obtain ⟨_, _, hu⟩ := caught.joins r (by rw [vengine]; exact hr)
    refine ⟨_, hu, rfl, by rw [vengine], by rw [vengine], by rw [vengine], by rw [vengine], ?_⟩
    rw [vservice, vengine]
    by_cases mem : line ∈ c.engine.queue
    · simp [mem]
    · simp [mem, service]
  refine ⟨cleared ▸ unserved, fun stale => ⟨u, ?_, served stale ▸ choosesFrom_kick u⟩, fun stale prompt => ?_,
    fun busy => ?_, fun stale opened busy service => ?_, fun stale state ready => ?_, fun stale closed service => ?_⟩
  · rw [← cleared]
    have made := caught
    rw [hv] at made
    exact made
  · rw [is (unserved stale), settle_of_no_prompt prompt, cleared]
    rfl
  · cases stale : c.engine.stale.get z with
    | false => rw [is (unserved stale), ports_settle_of_busy (cquiet.trans busy), cports]
    | true =>
      rw [is (served stale), kick_of_busy (uquiet.trans busy), ports_settle_of_busy (uquiet.trans busy), utold]
  · obtain ⟨r, hr⟩ := Option.isSome_iff_exists.1 opened
    obtain ⟨w, hw, wopen, -, -, -, -, queue⟩ := joins r hr service
    rw [is (served stale), kick_of_busy (uquiet.trans busy), settle_of_open (by rw [hw]; exact wopen), hw]
    exact queue
  · rw [cengine] at state
    obtain ⟨opened, queue, quiet, current, returns⟩ := ok.rests_of_deferred state
    rw [← cengine] at opened queue current returns state
    have service : s.lineInService line = true := by
      rw [State.lineInService, ready]
      rfl
    obtain ⟨r, hr⟩ := Option.isSome_iff_exists.1 opened
    obtain ⟨w, hw, wopen, wgeneration, wstate, wcurrent, wreturns, wqueue⟩ := joins r hr service
    rw [queue, if_neg (List.not_mem_nil), List.nil_append] at wqueue
    have uengine : u.engine = w := by rw [hw]; rfl
    rw [← uengine] at wopen wgeneration wcurrent wreturns wqueue
    have chosen : u.kick = _ := (mayChoose_of_kick ⟨wopen, uquiet.trans quiet, wcurrent.trans current,
      fun _ => by rw [wqueue]; exact List.cons_ne_nil _ _⟩).trans
        (choose_of_first (before := []) (after := []) (wreturns.trans returns) wqueue (by simp)
          ((congrFun umodule line).trans ready) uline)
    rw [is (served stale), chosen, settle_of_open (by exact wopen)]
    exact ⟨wqueue, rfl, rfl, rfl, wgeneration, utold⟩
  · have running : s.stage = .running := by
      by_contra h
      have := (ok.before h).2.2.1 z
      rw [← cengine, stale] at this
      cases this
    obtain ⟨unavailable, -, hw⟩ := caught.opens (by rw [vengine]; exact closed)
      ⟨line, List.mem_singleton_self _, by rw [vservice]; exact service⟩
    have queue : u.engine.queue = [line] := by
      have empty := (ok.closed (by rw [← cengine]; exact closed)).1
      rw [← cengine] at empty
      rw [hw, vservice, vengine]
      simp [empty, service]
    have refresh : u.engine.refresh =
        some ⟨⟨true, false, false⟩, none, false, 0, 0, 0, Table.fill false, unavailable⟩ := by rw [hw]; rfl
    have generation : u.engine.generation = c.engine.generation + 1 := by rw [hw, vengine]; rfl
    have opened : u.engine.refresh.isSome := by rw [refresh]; rfl
    have settled : t.engine.refresh = u.engine.refresh ∧ t.engine.generation = u.engine.generation ∧
        t.engine.queue = [line] := by
      rw [is (served stale)]
      cases quiet : s.quiet with
      | false =>
        rw [kick_of_busy (uquiet.trans quiet), settle_of_open opened]
        exact ⟨rfl, rfl, queue⟩
      | true =>
        have closed' : s.engine.refresh = none := by rw [← cengine]; exact closed
        have current : u.engine.current = none := by
          rw [hw, vengine, cengine]
          exact (ok.closed closed').2.1
        have returns : u.engine.returnList = [] := by
          rw [hw, vengine, cengine]
          exact ok.returnList_of_closed running closed' quiet
        rw [mayChoose_of_kick ⟨opened, uquiet.trans quiet, current,
          fun _ => by rw [queue]; exact List.cons_ne_nil _ _⟩]
        exact settle_choose_single queue returns uline opened
    exact ⟨_, settled.1.trans refresh, rfl, settled.2.1.trans generation, settled.2.2⟩

end Sys2Proof.Machine
end

section
/-! SUPPORT. SHOW: its lines, the commit of its lines, and the lines it hands to the engine. -/

namespace Sys2Proof.Machine

open Host (Outcome)

variable {s : State} {l : Link} {f : Frame} {lines : List Line}

/-! ### The board that answered a frame -/

theorem answered_eq (s : State) (l : Link) (f : Frame) (r : Reply) :
    s.answered l f r = s.setPorts (s.answered l f r).ports := by cases l <;> rfl

theorem presence_answered (s : State) (l : Link) (f : Frame) (r : Reply) :
    (s.answered l f r).ports.presence = s.ports.presence := by cases l <;> rfl

/-! ### The lines of a scope -/

/-- The lines of a scope stand in ascending order, and the sender owns each. -/
theorem scope_lines (h : s.scope (linkIdentity l) f.payload = .ok lines) :
    lines.Pairwise (· < ·) ∧ ∀ ln ∈ lines, s.owns (linkIdentity l) ln = true := by
  unfold State.scope at h
  split at h
  · cases h
    exact ⟨pairwise_filter_allLines _, fun ln hl => (List.mem_filter.1 hl).2⟩
  · split at h
    · cases h
    · rename_i p found
      split at h
      · rename_i owner
        cases h
        refine ⟨pairwise_filter_allLines _, fun ln hl => ?_⟩
        exact (owns_iff s _ ln).2 ⟨p, List.mem_of_find?_eq_some found, owner, (mem_paneLines p ln).1 hl⟩
      · cases h
  · cases h

/-- A line of a link's scope is not LOCAL's. -/
theorem PanesOk.not_local {ln : Line} (ok : PanesOk s.panes) (own : s.owns (linkIdentity l) ln = true) :
    s.owns .localWriter ln = false := by
  rw [← Bool.not_eq_true]
  intro h
  obtain ⟨p, hp, hpo, hpl⟩ := (owns_iff s _ ln).1 own
  obtain ⟨q, hq, hqo, hql⟩ := (owns_iff s _ ln).1 h
  have same : p = q := ok.unique hp hq (l := ln) (by simpa [paneHas] using hpl) (by simpa [paneHas] using hql)
  rw [← same, hpo] at hqo
  cases l <;> cases hqo

/-! ### The commit of lines (R8, R12, R28) -/

/-- The current line after a commit of the lines named (R12). -/
def State.retargetOn (s : State) (ls : List Line) (c : Current) : Current :=
  if c.line ∈ ls then
    { c with round := c.round.retarget fun p => pinState (s.target c.line) p != pinState (s.staging c.line) p }
  else c

/-- A CANCEL's work after a commit of the lines named (R28). -/
def dropCopyOn (ls : List Line) (w : CancelWork) : CancelWork :=
  if w.line ∈ ls then { w with copyDue := false } else w

theorem line_retargetOn (s : State) (ls : List Line) (c : Current) : (s.retargetOn ls c).line = c.line := by
  unfold State.retargetOn
  split <;> rfl

theorem line_dropCopyOn (ls : List Line) (w : CancelWork) : (dropCopyOn ls w).line = w.line := by
  unfold dropCopyOn
  split <;> rfl

theorem commitLine_eq (s : State) (k : Line) : s.commitLine k =
    (s.setPage { s.page with target := s.page.target.set k (s.staging k) }).setEngine
      { s.engine with
        current := s.engine.current.map (s.retargetOn [k])
        cancelled := s.engine.cancelled.map (dropCopyOn [k]) } := by
  have retarget : ∀ c : Current, s.retargetOn [k] c = if c.line = k then
      { c with round := c.round.retarget fun p => pinState (s.target k) p != pinState (s.staging k) p } else c := by
    intro c
    unfold State.retargetOn
    by_cases h : c.line = k
    · simp [h]
    · simp [h]
  have drop : dropCopyOn [k] = fun w => if w.line = k then { w with copyDue := false } else w := by
    funext w
    simp [dropCopyOn]
  rw [drop, funext retarget]
  rfl

theorem dropCopyOn_cons (k : Line) (ls : List Line) (w : CancelWork) :
    dropCopyOn ls (dropCopyOn [k] w) = dropCopyOn (k :: ls) w := by
  unfold dropCopyOn
  by_cases h : w.line = k
  · simp [h]
  · simp [h]

/-- A commit copies staging into target on its lines, retargets the current line and drops pending copies. -/
theorem commitLines_eq (ls : List Line) : ∀ s : State, ls.Nodup → ∃ target : Image,
    (∀ ln, target.get ln = if ln ∈ ls then s.staging ln else s.target ln) ∧
    s.commitLines ls = (s.setPage { s.page with target := target }).setEngine
      { s.engine with
        current := s.engine.current.map (s.retargetOn ls)
        cancelled := s.engine.cancelled.map (dropCopyOn ls) } := by
  induction ls with
  | nil =>
    intro s _
    refine ⟨s.page.target, fun ln => by simp [State.target], ?_⟩
    have retarget : s.retargetOn [] = id := by funext c; simp [State.retargetOn]
    have drop : dropCopyOn [] = id := by funext w; simp [dropCopyOn]
    rw [retarget, drop, Option.map_id, Option.map_id]
    rfl
  | cons k ls ih =>
    intro s once
    obtain ⟨out, once⟩ := List.nodup_cons.1 once
    obtain ⟨target, htarget, made⟩ := ih (s.commitLine k) once
    have first := commitLine_eq s k
    have staging : (s.commitLine k).staging = s.staging := by rw [first]; rfl
    have other : ∀ ln, ln ≠ k → (s.commitLine k).target ln = s.target ln := fun ln h => by
      rw [first]
      exact Table.get_set_other _ _ (Ne.symm h)
    refine ⟨target, fun ln => ?_, ?_⟩
    · rw [htarget, staging]
      by_cases h : ln = k
      · rw [h, if_neg out, if_pos List.mem_cons_self, first]
        exact Table.get_set_same _ _ _
      · rw [other ln h]
        simp [h]
    · have retarget : ∀ c, (s.commitLine k).retargetOn ls (s.retargetOn [k] c) = s.retargetOn (k :: ls) c := by
        intro c
        by_cases h : c.line = k
        · have kept : (s.commitLine k).retargetOn ls (s.retargetOn [k] c) = s.retargetOn [k] c :=
            if_neg (by rw [line_retargetOn, h]; exact out)
          rw [kept]
          simp [State.retargetOn, h]
        · have same : s.retargetOn [k] c = c := if_neg (by simpa using h)
          rw [same]
          simp only [State.retargetOn, List.mem_cons, h, false_or, staging, other _ h]
      show (s.commitLine k).commitLines ls = _
      have current : (s.commitLine k).engine.current.map ((s.commitLine k).retargetOn ls) =
          s.engine.current.map (s.retargetOn (k :: ls)) := by
        rw [← funext retarget, first]
        exact Option.map_map ..
      have cancelled : (s.commitLine k).engine.cancelled.map (dropCopyOn ls) =
          s.engine.cancelled.map (dropCopyOn (k :: ls)) := by
        rw [← funext (dropCopyOn_cons k ls), first]
        exact Option.map_map ..
      rw [made, current, cancelled, first]
      rfl

/-! ### The lines handed to the engine (R10, R11) -/

/-- A merge, whole (R11). -/
theorem mergeRefresh_eq (r : Refresh) (who : Identity) {ls : List Line} (once : ls.Nodup) :
    ∃ unavailable : LineSet,
    (∀ ln, unavailable.get ln = if ln ∈ ls then !s.lineInService ln else r.unavailable.get ln) ∧
    s.mergeRefresh r who ls = (s.setPorts (s.portsClosed r .superseded none)).setEngine
      { s.engine with
        generation := s.engine.generation + 1
        queue := s.engine.queue ++ ls.filter fun l => s.lineInService l && !s.engine.queue.contains l
        refresh := some
          ⟨addRequester r.requesters who,
            if s.engine.stale.count = 0 then none else timerOf s.settings.deferMs,
            false, 0, 0, 0, r.unsettled, unavailable⟩ } := by
  unfold State.mergeRefresh
  rw [sendClosed_eq]
  obtain ⟨u, hu, appended⟩ := appendLines_eq ls ((s.setPorts (s.portsClosed r .superseded none)).setEngine
    { s.engine with
      generation := s.engine.generation + 1
      refresh := some
        { r with
          requesters := addRequester r.requesters who
          linesDone := 0, newFaults := 0, clampCount := 0, expired := false } }) once
  refine ⟨u r.unavailable, hu _, ?_⟩
  exact (congrArg (fun t : State => t.updRefresh fun r =>
    { r with deadline := if t.engine.stale.count = 0 then none else timerOf t.settings.deferMs }) appended).trans rfl

/-- The lines handed to the engine, before it chooses. -/
def State.handedOver (s : State) (who : Identity) (dirty : List Line) : State :=
  match s.engine.refresh with
  | none => s.openRefresh (onlyRequester who) dirty
  | some r => s.mergeRefresh r who dirty

theorem handLines_nil (s : State) (who : Identity) : s.handLines who [] = s := if_pos rfl

theorem handLines_of_ne (who : Identity) {dirty : List Line} (some : dirty ≠ []) :
    s.handLines who dirty = (s.handedOver who dirty).kick := by
  refine (if_neg some).trans ?_
  unfold State.handedOver
  cases s.engine.refresh <;> rfl

/-- A SHOW, served. -/
theorem exec_showPanes (takes : Takes s l .show_ f) (ok : s.scope (linkIdentity l) f.payload = .ok lines) :
    exec (.showPanes l) s =
      .next ((s.answered l f (s.showReply (s.dirtyLines lines))).commit (linkIdentity l) lines).settle := by
  refine take_of_served takes ?_
  unfold serveShow
  rw [scope_popFrame, ok]
  cases l <;> rfl

/-- What the handing over leaves. -/
structure HandedOver (s t : State) : Prop where
  page : t.page = s.page
  same : SameBesideEngine s t
  stage : t.stage = s.stage
  writer : t.writer = s.writer
  quiet : t.quiet = s.quiet
  current : t.engine.current = s.engine.current
  cancelled : t.engine.cancelled = s.engine.cancelled

theorem HandedOver.refl (s : State) : HandedOver s s := ⟨rfl, .refl s, rfl, rfl, rfl, rfl, rfl⟩

theorem handedOver_kept (s : State) (who : Identity) {dirty : List Line} (once : dirty.Nodup) :
    HandedOver s (s.handedOver who dirty) := by
  unfold State.handedOver
  split
  · obtain ⟨_, _, h⟩ := openRefresh_eq s (onlyRequester who) once
    exact ⟨by rw [h]; rfl, SameBesideEngine.openRefresh s _ _, by rw [h]; rfl, by rw [h]; rfl, by rw [h]; rfl,
      by rw [h]; rfl, by rw [h]; rfl⟩
  · rename_i r _
    obtain ⟨_, _, h⟩ := mergeRefresh_eq (s := s) r who once
    exact ⟨by rw [h]; rfl, SameBesideEngine.mergeRefresh s _ _ _, by rw [h]; rfl, by rw [h]; rfl, by rw [h]; rfl,
      by rw [h]; rfl, by rw [h]; rfl⟩

theorem kick_of_current (h : s.engine.current.isSome) : s.kick = s := by
  unfold State.kick
  rw [if_neg (by simp [Option.isNone_iff_eq_none, Option.isSome_iff_ne_none.1 h])]

end Sys2Proof.Machine
end

section
/-! SUPPORT. What a SHOW copies. -/

namespace Sys2Proof.Machine

open Host (Outcome)

variable {s : State} {l : Link} {f : Frame} {lines : List Line} {target : Image}

/-- The board with a SHOW answered and its lines committed. -/
def State.showCommitted (s : State) (l : Link) (f : Frame) (lines : List Line) (target : Image) : State :=
  ((s.answered l f (s.showReply (s.dirtyLines lines))).setPage { s.page with target := target }).setEngine
    { s.engine with
      current := s.engine.current.map (s.retargetOn lines)
      cancelled := s.engine.cancelled.map (dropCopyOn lines) }

/-- The board with a SHOW's dirty lines, where it has any, handed to the engine. -/
def State.showHanded (s : State) (l : Link) (f : Frame) (lines : List Line) (target : Image) : State :=
  if s.dirtyLines lines = [] then s.showCommitted l f lines target
  else (s.showCommitted l f lines target).handedOver (linkIdentity l) (s.dirtyLines lines)

theorem nodup_dirtyLines (once : lines.Nodup) : (s.dirtyLines lines).Nodup := once.filter _

/-- A SHOW: its lines are committed, the dirty ones handed over, and the engine chooses, if it may. -/
theorem show_cases (takes : Takes s l .show_ f) (ok : s.scope (linkIdentity l) f.payload = .ok lines) :
    ∃ target : Image, (∀ ln, target.get ln = if ln ∈ lines then s.staging ln else s.target ln) ∧
      exec (.showPanes l) s = .next (if s.dirtyLines lines = [] then (s.showCommitted l f lines target).settle
        else (s.showHanded l f lines target).kick.settle) := by
  obtain ⟨a, ha⟩ : ∃ a, a = s.answered l f (s.showReply (s.dirtyLines lines)) := ⟨_, rfl⟩
  have put : a = s.setPorts a.ports := ha ▸ answered_eq s l f _
  have once : lines.Nodup := nodup_of_pairwise_lt (scope_lines ok).1
  obtain ⟨target, htarget, made⟩ := commitLines_eq lines a once
  have page : a.page = s.page := by rw [put]; rfl
  have engine : a.engine = s.engine := by rw [put]; rfl
  have dirty : a.dirtyLines lines = s.dirtyLines lines := by rw [put]; rfl
  have retarget : a.retargetOn lines = s.retargetOn lines := by rw [put]; rfl
  have committed : a.commitLines lines = s.showCommitted l f lines target := by
    rw [made, page, engine, retarget, ha]
    rfl
  refine ⟨target, fun ln => (htarget ln).trans (by rw [put]; rfl), (exec_showPanes takes ok).trans ?_⟩
  rw [← ha]
  unfold State.commit
  rw [dirty, committed]
  unfold State.showHanded
  by_cases none : s.dirtyLines lines = []
  · rw [if_pos none, none, handLines_nil]
  · rw [if_neg none, if_neg none, handLines_of_ne _ none]

theorem handedOver_showHanded (once : lines.Nodup) :
    HandedOver (s.showCommitted l f lines target) (s.showHanded l f lines target) := by
  unfold State.showHanded
  split
  · exact .refl _
  · exact handedOver_kept _ _ (nodup_dirtyLines once)

theorem beside_showCommitted : SameBesideEngine s (s.showCommitted l f lines target) :=
  ((beside_answered s l f _).trans (.setPage _ _)).trans (.setEngine _ _)

theorem showCommitted_eq (s : State) (l : Link) (f : Frame) (lines : List Line) (target : Image) :
    (s.showCommitted l f lines target).stage = s.stage ∧ (s.showCommitted l f lines target).writer = s.writer ∧
      (s.showCommitted l f lines target).quiet = s.quiet := by
  cases l <;> exact ⟨rfl, rfl, rfl⟩

theorem beside_showHanded (once : lines.Nodup) :
    SameBesideEngine s (s.showHanded l f lines target) ∧ (s.showHanded l f lines target).stage = s.stage ∧
      (s.showHanded l f lines target).writer = s.writer ∧ (s.showHanded l f lines target).quiet = s.quiet ∧
      (s.showHanded l f lines target).engine.current = s.engine.current.map (s.retargetOn lines) := by
  have handed := handedOver_showHanded (s := s) (l := l) (f := f) (target := target) once
  obtain ⟨stage, writer, quiet⟩ := showCommitted_eq s l f lines target
  exact ⟨beside_showCommitted.trans handed.same, handed.stage.trans stage, handed.writer.trans writer,
    handed.quiet.trans quiet, handed.current.trans rfl⟩

/-- With an operation in flight, or a line being processed, the engine chooses nothing. -/
theorem kick_showHanded (once : lines.Nodup) (h : s.quiet = false ∨ s.engine.current.isSome) :
    (s.showHanded l f lines target).kick = s.showHanded l f lines target := by
  obtain ⟨-, -, -, quiet, current⟩ := beside_showHanded (s := s) (l := l) (f := f) (target := target) once
  rcases h with busy | some
  · exact kick_of_busy (quiet.trans busy)
  · refine kick_of_current ?_
    rw [current]
    simpa using some

/-- The event of a SHOW goes on from the lines handed over. -/
theorem show_run (takes : Takes s l .show_ f) (ok : s.scope (linkIdentity l) f.payload = .ok lines) :
    ∃ (target : Image) (t : State),
      (∀ ln, target.get ln = if ln ∈ lines then s.staging ln else s.target ln) ∧
      exec (.showPanes l) s = .next t ∧ EngineRun (fun _ => True) (s.showHanded l f lines target) t ∧
      (s.writer.prompt = false → (s.quiet = false ∨ s.engine.current.isSome) →
        t = s.showHanded l f lines target) := by
  obtain ⟨target, htarget, goes⟩ := show_cases takes ok
  have once : lines.Nodup := nodup_of_pairwise_lt (scope_lines ok).1
  obtain ⟨-, -, writer, -⟩ := beside_showHanded (s := s) (l := l) (f := f) (target := target) once
  have prompted := congrArg Writer.prompt writer
  by_cases none : s.dirtyLines lines = []
  · rw [if_pos none] at goes
    have same : s.showHanded l f lines target = s.showCommitted l f lines target := if_pos none
    rw [← same] at goes
    exact ⟨target, _, htarget, goes, EngineRun.settle _ (Workable.all _),
      fun prompt _ => settle_of_no_prompt (prompted.trans prompt)⟩
  · rw [if_neg none] at goes
    refine ⟨target, _, htarget, goes,
      Relation.ReflTransGen.trans (EngineRun.kick _ (Workable.all _)) (EngineRun.settle _ (Workable.all _)),
      fun prompt h => ?_⟩
    rw [kick_showHanded once h]
    exact settle_of_no_prompt (prompted.trans prompt)

/-- Settles O17: by the commit of the lines in order; what follows writes no image but on LOCAL's lines. -/
theorem showCopiesStagingIntoTarget : Obligations.ShowCopiesStagingIntoTarget := by
  intro l f s lines panes takes ok
  obtain ⟨target, t, htarget, goes, run, still⟩ := show_run takes ok
  obtain ⟨ascending, own⟩ := scope_lines ok
  have once : lines.Nodup := nodup_of_pairwise_lt ascending
  obtain ⟨u, hu⟩ : ∃ u, u = s.showHanded l f lines target := ⟨_, rfl⟩
  have handed : HandedOver (s.showCommitted l f lines target) u := hu ▸ handedOver_showHanded once
  rw [← hu] at run still
  have page : u.page = { s.page with target := target } := handed.page.trans rfl
  have beside : SameBesideEngine s u := beside_showCommitted.trans handed.same
  have owns : u.owns = s.owns := by
    funext who ln
    unfold State.owns
    rw [beside.panes]
  have images : ∀ ln, s.owns .localWriter ln = false → t.staging ln = s.staging ln ∧ t.target ln = target.get ln := by
    intro ln other
    obtain ⟨hs, ht⟩ := EngineRun.images run ln (by rw [owns]; exact other)
    rw [hs, ht]
    unfold State.staging State.target
    rw [page]
    exact ⟨rfl, rfl⟩
  refine ⟨t, goes, fun ln hl => ?_, fun ln hl other => ?_, fun ln other => (images ln other).1, ?_,
    beside.trans (EngineRun.same run), (EngineRun.stage run).trans (handed.stage.trans (showCommitted_eq ..).1),
    fun prompt h => ?_⟩
  · rw [(images ln (panes.not_local (own ln hl))).2, htarget, if_pos hl]
  · rw [(images ln other).2, htarget, if_neg hl]
  · rw [EngineRun.sensed run, page]
  · have current : u.engine.current = s.engine.current.map (s.retargetOn lines) := handed.current.trans rfl
    rw [still prompt h, page, current, handed.cancelled]
    refine ⟨rfl, rfl, fun none => by rw [none]; rfl, fun c hc => ?_, ?_⟩
    · rw [hc]
      by_cases mem : c.line ∈ lines
      · refine ⟨_, congrArg some (if_pos mem), fun p => ?_⟩
        refine (Table.get_tab _ p).trans ?_
        simp only [bne_iff_ne, mem, true_and, ne_comm (a := pinState (s.target c.line) p)]
      · exact ⟨_, congrArg some (if_neg mem), fun p => by simp [mem]⟩
    · rfl

end Sys2Proof.Machine
end

section
/-! SUPPORT. A SHOW that finds dirty lines with no refresh open. -/

namespace Sys2Proof.Machine

open Host (Outcome)

variable {s : State} {l : Link} {f : Frame} {lines : List Line} {target : Image}

theorem dirtyLine_iff (s : State) (ln : Line) : s.dirtyLine ln = true ↔ s.target ln ≠ s.staging ln ∨
    ∃ p, pinState (s.staging ln) p ≠ pinState (s.sensed ln) p ∧ s.faultMapped ln p = false := by
  simp [State.dirtyLine, mem_allPins]

theorem mem_dirtyLines (ln : Line) : ln ∈ s.dirtyLines lines ↔ ln ∈ lines ∧ s.dirtyLine ln = true :=
  List.mem_filter

theorem dirtyLines_ne_nil : s.dirtyLines lines ≠ [] ↔ ∃ ln ∈ lines, s.dirtyLine ln = true := by
  simp [State.dirtyLines, List.filter_eq_nil_iff]

theorem countP_dirtyLines (q : Line → Bool) :
    (s.dirtyLines lines).countP q = lines.countP fun ln => s.dirtyLine ln && q ln := by
  rw [State.dirtyLines, List.countP_filter]
  exact congrArg (List.countP · lines) (funext fun ln => Bool.and_comm _ _)

theorem filter_dirtyLines (q : Line → Bool) :
    (s.dirtyLines lines).filter q = lines.filter fun ln => s.dirtyLine ln && q ln := by
  rw [State.dirtyLines, List.filter_filter]
  exact congrArg (List.filter · lines) (funext fun ln => Bool.and_comm _ _)

/-- The reply to a SHOW that found dirty lines (R9). -/
theorem showReply_of_dirty (found : s.dirtyLines lines ≠ []) : s.showReply (s.dirtyLines lines) =
    .shown (s.engine.generation + 1) (lines.countP fun ln => s.dirtyLine ln && s.lineInService ln)
      (lines.countP fun ln => s.dirtyLine ln && !s.lineInService ln) := by
  rw [State.showReply, if_neg found, countP_dirtyLines, countP_dirtyLines]

theorem onlyRequester_link (l : Link) : onlyRequester (linkIdentity l) =
    ⟨decide (l = .station), decide (l = .patron), false⟩ := by cases l <;> rfl

/-- The dirty lines of a SHOW with no refresh open. -/
theorem showHanded_opens (once : lines.Nodup) (found : s.dirtyLines lines ≠ []) (closed : s.engine.refresh = none) :
    ∃ unavailable : LineSet,
      (∀ ln, unavailable.get ln = true ↔ ln ∈ lines ∧ s.dirtyLine ln = true ∧ s.lineInService ln = false) ∧
      s.showHanded l f lines target =
        (((s.answered l f (.shown (s.engine.generation + 1)
            (lines.countP fun ln => s.dirtyLine ln && s.lineInService ln)
            (lines.countP fun ln => s.dirtyLine ln && !s.lineInService ln))).setPage
          { s.page with target := target }).setEngine
          { s.engine with
            generation := s.engine.generation + 1
            queue := s.engine.queue ++ lines.filter (fun ln =>
              s.dirtyLine ln && s.lineInService ln && !s.engine.queue.contains ln)
            refresh := some ⟨⟨decide (l = .station), decide (l = .patron), false⟩, none, false, 0, 0, 0,
              Table.fill false, unavailable⟩
            auditInterval := none
            current := s.engine.current.map (s.retargetOn lines)
            cancelled := s.engine.cancelled.map (dropCopyOn lines) }).setReservoir
          ⟨if s.reservoir.charger = .off then 0 else s.reservoir.q,
            if s.reservoir.charger = .off then .charging else s.reservoir.charger, none⟩ := by
  obtain ⟨v, hv⟩ : ∃ v, v = s.showCommitted l f lines target := ⟨_, rfl⟩
  have vengine : v.engine = { s.engine with
      current := s.engine.current.map (s.retargetOn lines)
      cancelled := s.engine.cancelled.map (dropCopyOn lines) } := by rw [hv]; rfl
  have vreservoir : v.reservoir = s.reservoir := by rw [hv]; cases l <;> rfl
  have vservice : v.lineInService = s.lineInService :=
    SameBesideEngine.lineInService (hv ▸ beside_showCommitted)
  obtain ⟨unavailable, hunavailable, opened⟩ :=
    openRefresh_eq v (onlyRequester (linkIdentity l)) (nodup_dirtyLines (s := s) once)
  refine ⟨unavailable, fun ln => ?_, (if_neg found).trans ?_⟩
  · rw [hunavailable, mem_dirtyLines, vservice, and_assoc]
  · have handed : v.handedOver (linkIdentity l) (s.dirtyLines lines) =
        v.openRefresh (onlyRequester (linkIdentity l)) (s.dirtyLines lines) := by
      unfold State.handedOver
      rw [vengine]
      dsimp only
      rw [closed]
    rw [← hv, handed, opened, vservice, vengine, vreservoir, filter_dirtyLines, onlyRequester_link, hv,
      ← showReply_of_dirty found]
    simp only [Bool.and_assoc]
    rfl

/-- A charger that is on stays on while the engine acts. -/
theorem charger_on_of_run {W : Line → Prop} {t : State} (run : EngineRun W s t) (on : s.reservoir.charger ≠ .off) :
    t.reservoir.charger ≠ .off := by
  refine EngineRun.keeps (P := fun t => t.reservoir.charger ≠ .off) (fun a b move ha => ?_) run on
  cases move with
  | opens =>
    show (if a.reservoir.charger = .off then ChargerState.charging else a.reservoir.charger) ≠ .off
    split
    · decide
    · assumption
  | draws c _ _ =>
    show (if a.reservoir.charger = .full then ChargerState.charging else a.reservoir.charger) ≠ .off
    split
    · decide
    · exact ha
  | driveLimit => exact ha
  | mapFull => exact ha
  | notice l n _ => rw [setPort_reservoir]; exact ha
  | _ => exact ha

/-- Settles O18: by the record of a refresh that opens; what follows keeps its generation and the charger. -/
theorem showOpensARefreshWhenDirty : Obligations.ShowOpensARefreshWhenDirty := by
  intro l f s lines takes ok dirty
  obtain ⟨ascending, own⟩ := scope_lines ok
  have once : lines.Nodup := nodup_of_pairwise_lt ascending
  have hdirty : ∀ ln, s.dirtyLine ln = true ↔ dirty ln := dirtyLine_iff s
  have hsome : (∃ ln ∈ lines, dirty ln) ↔ s.dirtyLines lines ≠ [] := by
    rw [dirtyLines_ne_nil]
    simp only [hdirty]
  obtain ⟨target, htarget, goes⟩ := show_cases takes ok
  refine ⟨fun found closed => ?_, ascending, fun alone none => ?_, fun alone found closed => ?_, hdirty⟩
  · rw [hsome] at found
    rw [if_neg found] at goes
    obtain ⟨unavailable, hunavailable, made⟩ :=
      showHanded_opens (l := l) (f := f) (target := target) once found closed
    obtain ⟨u, hu⟩ : ∃ u, u = s.showHanded l f lines target := ⟨_, rfl⟩
    rw [← hu] at goes made
    have current : u.engine.current = s.engine.current.map (s.retargetOn lines) := by rw [made]; rfl
    have cancelled : u.engine.cancelled = s.engine.cancelled.map (dropCopyOn lines) := by rw [made]; rfl
    refine ⟨u, target, unavailable, htarget, fun ln => by rw [hunavailable, hdirty], ?_, ?_, ?_,
      goes ▸ choosesFrom_kick u⟩
    · rw [current]
      exact Option.map_eq_none_iff
    · rw [cancelled]
      exact Option.map_eq_none_iff
    · rw [current, cancelled]
      exact made
  · have nothing : s.dirtyLines lines = [] := by
      by_contra h
      obtain ⟨ln, hl, hd⟩ := hsome.2 h
      exact none ln hl hd
    have same : target = s.page.target := by
      refine Table.ext_get fun ln => (htarget ln).trans ?_
      by_cases mem : ln ∈ lines
      · rw [if_pos mem]
        exact (not_not.1 fun h => none ln mem (Or.inl h)).symm
      · rw [if_neg mem]
        rfl
    obtain ⟨v, hv⟩ : ∃ v, v = s.showCommitted l f lines target := ⟨_, rfl⟩
    have valone : v.ownedLines .localWriter = [] := by rw [hv, ← alone]; cases l <;> rfl
    rw [if_pos nothing, ← hv, settle_of_no_local valone, hv] at goes
    have reply : s.showReply (s.dirtyLines lines) = .shown s.engine.generation 0 0 := by rw [nothing]; rfl
    refine ⟨_, goes, ?_, rfl, rfl, rfl, rfl, by cases l <;> rfl, reply ▸ carries_answered s l f _⟩
    show { s.page with target := target } = s.page
    rw [same]
  · rw [hsome] at found
    rw [if_neg found] at goes
    obtain ⟨unavailable, hunavailable, made⟩ :=
      showHanded_opens (l := l) (f := f) (target := target) once found closed
    obtain ⟨u, hu⟩ : ∃ u, u = s.showHanded l f lines target := ⟨_, rfl⟩
    rw [← hu] at goes made
    have run : EngineRun (fun _ => True) u u.kick.settle :=
      Relation.ReflTransGen.trans (EngineRun.kick _ (Workable.all _)) (EngineRun.settle _ (Workable.all _))
    have ualone : u.ownedLines .localWriter = [] := by rw [made, ← alone]; cases l <;> rfl
    have generation : u.engine.generation = s.engine.generation + 1 := by rw [made]; rfl
    refine ⟨_, lines.countP (fun ln => s.dirtyLine ln && s.lineInService ln),
      lines.countP (fun ln => s.dirtyLine ln && !s.lineInService ln), goes, ?_, charger_on_of_run run ?_, ?_, rfl,
      (EngineRun.port run l).carries _ _ ?_, fun busy => ?_⟩
    · rcases (EngineRun.shift run).generation with h | ⟨ln, hl⟩
      · exact h.trans generation
      · rw [← mem_ownedLines, ualone] at hl
        cases hl
    · rw [made]
      show (if s.reservoir.charger = .off then ChargerState.charging else s.reservoir.charger) ≠ .off
      split
      · decide
      · assumption
    · rw [← countP_dirtyLines, ← countP_dirtyLines, List.countP_eq_length_filter (l := lines)]
      have out : (fun ln => decide ¬ s.lineInService ln = true) = fun ln => !s.lineInService ln := by
        funext ln
        cases s.lineInService ln <;> rfl
      have split := List.length_eq_countP_add_countP s.lineInService (l := s.dirtyLines lines)
      rw [out] at split
      exact split.symm
    · rw [made]
      exact carries_answered s l f _
    · have ubusy : u.quiet = false := by rw [made, ← busy]; cases l <;> rfl
      rw [kick_of_busy ubusy, settle_of_no_local ualone, made]
      exact ⟨_, rfl, rfl, rfl, rfl, rfl, rfl, rfl, fun _ => Table.get_fill _ _,
        fun ln => by rw [hunavailable, hdirty], rfl, rfl, rfl, rfl, rfl, rfl, by cases l <;> rfl, by cases l <;> rfl⟩

end Sys2Proof.Machine
end

section
/-! SUPPORT. A SHOW that finds dirty lines while a refresh is open. -/

namespace Sys2Proof.Machine

open Host (Outcome)

variable {s : State} {l : Link} {f : Frame} {lines : List Line} {target : Image} {r : Refresh}

theorem addRequester_link (x : Requesters) (l : Link) : addRequester x (linkIdentity l) =
    ⟨x.station || decide (l = .station), x.patron || decide (l = .patron), x.localWriter⟩ := by
  cases l
  · simp [addRequester, linkIdentity]
  · simp [addRequester, linkIdentity]

/-- The dirty lines of a SHOW with the refresh `r` open. -/
theorem showHanded_merges (once : lines.Nodup) (found : s.dirtyLines lines ≠ []) (opened : s.engine.refresh = some r) :
    ∃ (unavailable : LineSet) (v : State), v = s.showCommitted l f lines target ∧
      (∀ ln, unavailable.get ln =
        if ln ∈ lines ∧ s.dirtyLine ln = true then !s.lineInService ln else r.unavailable.get ln) ∧
      s.showHanded l f lines target = (v.setPorts (v.portsClosed r .superseded none)).setEngine
        { v.engine with
          generation := s.engine.generation + 1
          queue := s.engine.queue ++ lines.filter (fun ln =>
            s.dirtyLine ln && s.lineInService ln && !s.engine.queue.contains ln)
          refresh := some
            ⟨⟨r.requesters.station || decide (l = .station), r.requesters.patron || decide (l = .patron),
                r.requesters.localWriter⟩,
              if s.engine.stale.count = 0 then none else timerOf s.settings.deferMs,
              false, 0, 0, 0, r.unsettled, unavailable⟩ } := by
  obtain ⟨v, hv⟩ : ∃ v, v = s.showCommitted l f lines target := ⟨_, rfl⟩
  have vengine : v.engine = { s.engine with
      current := s.engine.current.map (s.retargetOn lines)
      cancelled := s.engine.cancelled.map (dropCopyOn lines) } := by rw [hv]; rfl
  have beside : SameBesideEngine s v := hv ▸ beside_showCommitted
  have vservice : v.lineInService = s.lineInService := SameBesideEngine.lineInService beside
  obtain ⟨unavailable, hunavailable, merged⟩ :=
    mergeRefresh_eq (s := v) r (linkIdentity l) (nodup_dirtyLines (s := s) once)
  refine ⟨unavailable, v, hv, fun ln => ?_, (if_neg found).trans ?_⟩
  · rw [hunavailable, vservice]
    exact if_congr (mem_dirtyLines ln) rfl rfl
  · have handed : v.handedOver (linkIdentity l) (s.dirtyLines lines) =
        v.mergeRefresh r (linkIdentity l) (s.dirtyLines lines) := by
      unfold State.handedOver
      rw [vengine]
      dsimp only
      rw [opened]
    rw [← hv, handed, merged, vservice, filter_dirtyLines, addRequester_link, beside.settings]
    simp only [vengine, Bool.and_assoc]

/-- An engine in HELD rests, and no queued line's module is READY. -/
theorem EngineOk.rests_of_held (h : EngineOk s) (state : s.engine.state = .held) :
    s.engine.queue ≠ [] ∧ s.quiet = true ∧ s.engine.current = none ∧ s.engine.returnList = [] ∧
      ∀ ln ∈ s.engine.queue, s.lineModule ln ≠ .ready := by
  obtain ⟨opened, queue, ready⟩ := h.held state
  have waiting : ∀ ln ∈ s.engine.queue, s.lineModule ln ≠ .ready := fun ln hl => by
    simpa using List.find?_eq_none.1 ready ln hl
  cases h.phase (h.started opened) with
  | busy o op st => rw [state] at st; cases o <;> cases st
  | waiting c quiet st => rw [state] at st; cases st
  | rest quiet current cancelled returns => exact ⟨queue, (quiet_iff s).2 quiet, current, returns, waiting⟩

theorem powered_of_takeable (h : s.takeable l = some f) : s.powered = true := by
  have service : s.inService l = true := by
    by_contra out
    unfold State.takeable at h
    rw [if_neg (by simp [Bool.not_eq_true _ ▸ out])] at h
    cases h
  have := ((inService_iff s l).1 service).1
  simpa [State.powered] using this

/-- Settles O19: by the record of the merge; a kick of an engine that works on leaves it. -/
theorem dirtyShowMergesIntoTheRefresh : Obligations.DirtyShowMergesIntoTheRefresh := by
  intro l f s lines r takes ok opened some after superseded
  have once : lines.Nodup := nodup_of_pairwise_lt (scope_lines ok).1
  have found : s.dirtyLines lines ≠ [] := dirtyLines_ne_nil.2 some
  obtain ⟨target, htarget, goes⟩ := show_cases takes ok
  rw [if_neg found] at goes
  obtain ⟨beside, stage, writer, quiet, current⟩ :=
    beside_showHanded (s := s) (l := l) (f := f) (target := target) once
  have idle := kick_showHanded (s := s) (l := l) (f := f) (target := target) once
  obtain ⟨unavailable, v, hv, hunavailable, made⟩ :=
    showHanded_merges (l := l) (f := f) (target := target) once found opened
  obtain ⟨u, hu⟩ : ∃ u, u = s.showHanded l f lines target := ⟨_, rfl⟩
  rw [← hu] at goes beside stage writer quiet current idle made
  have prompted : u.writer.prompt = s.writer.prompt := congrArg Writer.prompt writer
  have state : u.engine.state = s.engine.state := by rw [made, hv]; rfl
  have refreshed : u.engine.refresh.isSome := by rw [made]; rfl
  have queue : u.engine.queue = s.engine.queue ++ lines.filter (fun ln =>
      s.dirtyLine ln && s.lineInService ln && !s.engine.queue.contains ln) := by rw [made]; rfl
  have current_none : s.engine.current = none → u.engine.current = none := fun h => by rw [current, h]; rfl
  refine ⟨u, ⟨⟨r.requesters.station || decide (l = .station), r.requesters.patron || decide (l = .patron),
      r.requesters.localWriter⟩, if s.engine.stale.count = 0 then none else timerOf s.settings.deferMs,
      false, 0, 0, 0, r.unsettled, unavailable⟩, goes ▸ choosesFrom_kick u, fun h prompt => ?_, fun still nothing deferred => ?_,
    fun hok held none prompt => ?_, (by rw [made]; rfl), (by rw [made]; rfl), state, rfl, rfl, rfl, rfl, rfl, rfl,
    ?_, queue, hunavailable, ?_, (by rw [made, hv]; cases l <;> rfl), (by rw [made, hv]; cases l <;> rfl),
    (by rw [made, hv]; cases l <;> rfl), beside.panes, beside.settings, beside.zones⟩
  · rw [goes, idle h, settle_of_no_prompt (prompted.trans prompt)]
  · rw [goes, mayChoose_of_kick ⟨refreshed, quiet.trans still, current_none nothing, fun hd => ?_⟩]
    obtain ⟨ln, mem, dirty, service⟩ := deferred (state.symm.trans hd)
    rw [queue]
    intro empty
    obtain ⟨before, joined⟩ := List.append_eq_nil_iff.1 empty
    rw [before] at joined
    exact List.filter_eq_nil_iff.1 joined ln mem (by simp [dirty, service])
  · obtain ⟨waits, still, nothing, returns, waiting⟩ := hok.rests_of_held held
    have service : u.lineModule = s.lineModule := by
      unfold State.lineModule State.moduleState
      rw [beside.records]
    have noneReady : ∀ ln ∈ u.engine.queue, u.lineModule ln ≠ .ready := fun ln hl => by
      rw [service]
      rw [queue] at hl
      rcases List.mem_append.1 hl with h | h
      · exact waiting ln h
      · obtain ⟨mem, h⟩ := List.mem_filter.1 h
        simp only [Bool.and_eq_true] at h
        exact none ln mem h.1.1
    have list : u.engine.returnList = [] := by
      rw [made, hv]
      exact returns
    have some : u.engine.queue ≠ [] := by
      rw [queue]
      exact fun h => waits (List.append_eq_nil_iff.1 h).1
    rw [goes, mayChoose_of_kick ⟨refreshed, quiet.trans still, current_none nothing, fun _ => some⟩,
      choose_of_none_ready list some noneReady]
    have same : u.setEngineState .held = u := by
      rw [← held, ← state]
      rfl
    rw [same, settle_of_no_prompt (prompted.trans prompt)]
  · dsimp only
    rw [timerOf_eq]
    by_cases h : s.engine.stale.count = 0
    · simp [h]
    · simp [h]
  · have vports : v.ports = after := by
      rw [hv]
      exact congrArg (fun x => (s.answered l f x).ports) (showReply_of_dirty found)
    have presence : after.presence = s.ports.presence := presence_answered s l f _
    have report : v.closeReport r .superseded = ⟨s.engine.generation, .superseded, r.linesDone,
        s.engine.stale.count, r.unsettled.count, r.unavailable.count, r.newFaults, r.clampCount⟩ := by rw [hv]; rfl
    have powered : v.powered = true := by
      rw [hv, ← powered_of_takeable takes.1]
      cases l <;> rfl
    have uports : u.ports = v.portsClosed r .superseded Option.none := by rw [made]; rfl
    rw [uports]
    unfold State.portsClosed
    rw [report, powered, vports]
    simp [superseded, presence]

end Sys2Proof.Machine
end

section
/-! SUPPORT. CANCEL: the lines it takes back. -/

namespace Sys2Proof.Machine

open Host (Outcome)

variable {s : State} {l : Link} {f : Frame} {lines : List Line} {who : Identity}

/-- The work in flight that a CANCEL of the lines named leaves (R28). -/
def State.workTaken (s : State) (who : Identity) (ls : List Line) : Option CancelWork :=
  match ls.find? s.workInFlight with
  | some ln => some ⟨ln, who, true, s.settings.verify⟩
  | none => s.engine.cancelled

/-- The board with the lines named taken back (R27, R28, R44). -/
def State.takenBack (s : State) (who : Identity) (ls : List Line) : State :=
  ((s.setPage { s.page with
      target := Table.tab fun ln => if ln ∈ ls ∧ s.workInFlight ln = false then s.sensed ln else s.target ln }).setWriter
    { s.writer with
      lastUnsettled := Table.tab fun ln => s.writer.lastUnsettled.get ln && decide (ln ∉ ls) }).setEngine
    { s.engine with
      queue := s.engine.queue.filter (· ∉ ls)
      refresh := s.engine.refresh.map fun r =>
        { r with unsettled := Table.tab fun ln => r.unsettled.get ln && decide (ln ∉ ls) }
      stale := Table.tab fun z => s.engine.stale.get z && decide (zoneLine z ∉ ls)
      current := s.engine.current.filter (·.line ∉ ls)
      cancelled := s.workTaken who ls }

/-- At most one line has work in flight: a CANCEL's work and a current line do not stand together. -/
def State.oneInFlight (s : State) : Prop := ∀ w, s.engine.cancelled = some w → s.engine.current = none

theorem State.oneInFlight.unique (h : s.oneInFlight) {a b : Line} (ha : s.workInFlight a = true)
    (hb : s.workInFlight b = true) : a = b := by
  rw [workInFlight_iff] at ha hb
  obtain ⟨-, ⟨c, hc, rfl⟩ | ⟨w, hw, rfl⟩⟩ := ha
  · obtain ⟨-, ⟨d, hd, rfl⟩ | ⟨v, hv, rfl⟩⟩ := hb
    · rw [hc] at hd
      cases hd
      rfl
    · rw [h v hv] at hc
      cases hc
  · obtain ⟨-, ⟨d, hd, rfl⟩ | ⟨v, hv, rfl⟩⟩ := hb
    · rw [h w hw] at hd
      cases hd
    · rw [hw] at hv
      cases hv
      rfl

theorem cancelLine_eq (who : Identity) (s : State) (k : Line) : State.cancelLine who s k = s.takenBack who [k] := by
  have kept : ∀ ln : Line, decide (ln ∉ [k]) = (ln != k) := fun ln => by simp [bne, Bool.beq_eq_decide_eq]
  have unset : ∀ x : LineSet, (Table.tab fun ln => x.get ln && ln != k) = x.set k false := fun x =>
    Table.ext_get fun ln => by
      rw [Table.get_set, Table.get_tab]
      by_cases h : ln = k
      · simp [h]
      · simp [h, Ne.symm h]
  have taken : s.workTaken who [k] =
      if s.workInFlight k then some ⟨k, who, true, s.settings.verify⟩ else s.engine.cancelled := by
    unfold State.workTaken
    cases h : s.workInFlight k <;> simp [h]
  have target : (Table.tab fun ln => if ln ∈ [k] ∧ s.workInFlight ln = false then s.sensed ln else s.target ln) =
      if s.workInFlight k then s.page.target else s.page.target.set k (s.sensed k) := Table.ext_get fun ln => by
    rw [Table.get_tab]
    by_cases h : ln = k
    · cases hw : s.workInFlight k <;> simp [h, hw, State.target]
    · cases hw : s.workInFlight k <;> simp [h, State.target, Table.get_set_other, Ne.symm h]
  unfold State.takenBack
  rw [target, taken]
  simp only [kept, unset]
  unfold State.cancelLine
  cases h : s.workInFlight k with
  | true => rfl
  | false => rfl

theorem oneInFlight_takenBack (one : s.oneInFlight) (who : Identity) (k : Line) :
    (s.takenBack who [k]).oneInFlight := by
  intro w hw
  show s.engine.current.filter _ = none
  change s.workTaken who [k] = some w at hw
  unfold State.workTaken at hw
  cases busy : s.workInFlight k with
  | false =>
    simp only [List.find?, busy] at hw
    rw [one w hw]
    rfl
  | true =>
    obtain ⟨-, ⟨c, hc, line⟩ | ⟨w, hw, -⟩⟩ := (workInFlight_iff s k).1 busy
    · rw [hc]
      simp [line]
    · rw [one w hw]
      rfl

theorem workInFlight_takenBack (one : s.oneInFlight) (who : Identity) {k ln : Line} (other : ln ≠ k) :
    (s.takenBack who [k]).workInFlight ln = s.workInFlight ln := by
  rw [Bool.eq_iff_iff, workInFlight_iff, workInFlight_iff]
  refine and_congr_right fun quiet => ?_
  change (∃ c, s.engine.current.filter _ = some c ∧ c.line = ln) ∨ (∃ w, s.workTaken who [k] = some w ∧ w.line = ln) ↔ _
  have current : (∃ c, s.engine.current.filter (·.line ∉ [k]) = some c ∧ c.line = ln) ↔
      ∃ c, s.engine.current = some c ∧ c.line = ln := by
    simp only [Option.filter_eq_some_iff, decide_eq_true_eq, List.mem_singleton]
    exact ⟨fun ⟨c, ⟨hc, _⟩, hl⟩ => ⟨c, hc, hl⟩, fun ⟨c, hc, hl⟩ => ⟨c, ⟨hc, hl ▸ other⟩, hl⟩⟩
  refine (or_congr_left current).trans ?_
  unfold State.workTaken
  cases busy : s.workInFlight k with
  | false => simp only [List.find?, busy]
  | true =>
    have idle : ∀ {p : Prop}, p → (p → s.workInFlight ln = true) → False := fun hp h =>
      other (one.unique (h hp) busy)
    simp only [List.find?, busy]
    constructor
    · rintro (h | ⟨w, hw, hl⟩)
      · exact Or.inl h
      · cases hw
        exact absurd hl.symm other
    · rintro (h | h)
      · exact Or.inl h
      · exact (idle h fun h => (workInFlight_iff s ln).2 ⟨quiet, Or.inr h⟩).elim

theorem takenBack_cons (one : s.oneInFlight) (who : Identity) {k : Line} {ls : List Line} (out : k ∉ ls) :
    (s.takenBack who [k]).takenBack who ls = s.takenBack who (k :: ls) := by
  obtain ⟨t, ht⟩ : ∃ t, t = s.takenBack who [k] := ⟨_, rfl⟩
  have busy : ∀ ln, ln ≠ k → t.workInFlight ln = s.workInFlight ln := fun ln h =>
    ht ▸ workInFlight_takenBack one who h
  have both : ∀ ln : Line, (decide (ln ∉ [k]) && decide (ln ∉ ls)) = decide (ln ∉ k :: ls) := fun ln => by simp
  have target : (Table.tab fun ln => if ln ∈ ls ∧ t.workInFlight ln = false then t.sensed ln else t.target ln) =
      Table.tab fun ln => if ln ∈ k :: ls ∧ s.workInFlight ln = false then s.sensed ln else s.target ln := by
    refine Table.ext_get fun ln => ?_
    rw [Table.get_tab, Table.get_tab]
    have first : t.target ln = if ln = k ∧ s.workInFlight ln = false then s.sensed ln else s.target ln := by
      rw [ht]
      exact (Table.get_tab _ ln).trans (if_congr (by rw [List.mem_singleton]) rfl rfl)
    have sensed : t.sensed = s.sensed := by rw [ht]; rfl
    rw [first, sensed]
    by_cases h : ln = k
    · subst h
      simp [out]
    · rw [busy ln h]
      simp [h]
  have unsettled : (Table.tab fun ln => t.writer.lastUnsettled.get ln && decide (ln ∉ ls)) =
      Table.tab fun ln => s.writer.lastUnsettled.get ln && decide (ln ∉ k :: ls) := by
    refine Table.ext_get fun ln => ?_
    rw [Table.get_tab, Table.get_tab, ← both, ← Bool.and_assoc, ht]
    exact congrArg (· && _) (Table.get_tab _ ln)
  have queue : t.engine.queue.filter (· ∉ ls) = s.engine.queue.filter (· ∉ k :: ls) := by
    rw [ht]
    refine (List.filter_filter ..).trans ?_
    simp only [Bool.and_comm (decide (_ ∉ ls)), both]
  have refresh : (t.engine.refresh.map fun r =>
        { r with unsettled := Table.tab fun ln => r.unsettled.get ln && decide (ln ∉ ls) }) =
      s.engine.refresh.map fun r =>
        { r with unsettled := Table.tab fun ln => r.unsettled.get ln && decide (ln ∉ k :: ls) } := by
    rw [ht]
    refine (Option.map_map ..).trans ?_
    refine congrArg (Option.map · s.engine.refresh) (funext fun r => ?_)
    simp only [Function.comp, Table.get_tab, Bool.and_assoc, both]
  have stale : (Table.tab fun z => t.engine.stale.get z && decide (zoneLine z ∉ ls)) =
      Table.tab fun z => s.engine.stale.get z && decide (zoneLine z ∉ k :: ls) := by
    refine Table.ext_get fun z => ?_
    rw [Table.get_tab, Table.get_tab, ← both, ← Bool.and_assoc, ht]
    exact congrArg (· && _) (Table.get_tab _ z)
  have current : t.engine.current.filter (·.line ∉ ls) = s.engine.current.filter (·.line ∉ k :: ls) := by
    rw [ht]
    refine (Option.filter_filter ..).trans ?_
    simp only [both]
  have cancelled : t.workTaken who ls = s.workTaken who (k :: ls) := by
    have rest : ls.find? t.workInFlight = ls.find? s.workInFlight :=
      List.find?_congr fun ln hl => busy ln fun h => out (h ▸ hl)
    have settings : t.settings = s.settings := by rw [ht]; rfl
    have work : t.engine.cancelled = s.workTaken who [k] := by rw [ht]; rfl
    unfold State.workTaken at work ⊢
    rw [rest, work, settings]
    cases hk : s.workInFlight k with
    | false => simp only [List.find?, hk]
    | true =>
      have none : ls.find? s.workInFlight = none := List.find?_eq_none.2 fun ln hl hw =>
        out (one.unique hw hk ▸ hl)
      simp only [List.find?, hk, none]
  rw [← ht]
  unfold State.takenBack
  rw [target, unsettled, queue, refresh, stale, current, cancelled, ht]
  rfl

theorem takenBack_nil (who : Identity) : s.takenBack who [] = s := by
  have target : (Table.tab fun ln => if ln ∈ ([] : List Line) ∧ s.workInFlight ln = false then s.sensed ln
      else s.target ln) = s.page.target := Table.ext_get fun ln => by rw [Table.get_tab]; simp [State.target]
  have all : ∀ x : LineSet, (Table.tab fun ln => x.get ln && decide (ln ∉ ([] : List Line))) = x := fun x =>
    Table.ext_get fun ln => by rw [Table.get_tab]; simp
  have zones : (Table.tab fun z => s.engine.stale.get z && decide (zoneLine z ∉ ([] : List Line))) = s.engine.stale :=
    Table.ext_get fun z => by rw [Table.get_tab]; simp
  have refresh : (s.engine.refresh.map fun r => { r with unsettled := r.unsettled }) = s.engine.refresh := by
    cases s.engine.refresh <;> rfl
  have queue : s.engine.queue.filter (· ∉ ([] : List Line)) = s.engine.queue := by simp
  have current : s.engine.current.filter (·.line ∉ ([] : List Line)) = s.engine.current := by
    cases s.engine.current <;> simp
  unfold State.takenBack
  rw [target, zones, queue, current]
  simp only [all]
  rw [refresh]
  rfl

/-- A CANCEL of its lines, one after the other. -/
theorem cancelLines_eq (who : Identity) (ls : List Line) : ∀ s : State, s.oneInFlight → ls.Nodup →
    ls.foldl (State.cancelLine who) s = s.takenBack who ls := by
  induction ls with
  | nil => exact fun s _ _ => (takenBack_nil who).symm
  | cons k ls ih =>
    intro s one once
    obtain ⟨out, once⟩ := List.nodup_cons.1 once
    show ls.foldl (State.cancelLine who) (State.cancelLine who s k) = _
    rw [cancelLine_eq, ih _ (oneInFlight_takenBack one who k) once, takenBack_cons one who out]

end Sys2Proof.Machine
end

section
/-! SUPPORT. CANCEL, and what follows it. -/

namespace Sys2Proof.Machine

open Host (Outcome)

variable {s : State} {l : Link} {f : Frame} {lines : List Line}

/-- The board with a CANCEL answered and its lines taken back. -/
def State.cancelTaken (s : State) (l : Link) (f : Frame) (lines : List Line) : State :=
  ((s.answered l f (s.cancelReply lines)).promptIf (s.cancelPrompts lines)).takenBack (linkIdentity l) lines

/-- A CANCEL, served. -/
theorem exec_cancel (one : s.oneInFlight) (takes : Takes s l .cancel f)
    (ok : s.scope (linkIdentity l) f.payload = .ok lines) :
    exec (.cancel l) s = .next ((s.cancelTaken l f lines).afterCancel (linkIdentity l)).settle := by
  have once : lines.Nodup := nodup_of_pairwise_lt (scope_lines ok).1
  have one' : ((s.answered l f (s.cancelReply lines)).promptIf (s.cancelPrompts lines)).oneInFlight := by
    rw [promptIf_eq, answered_eq]
    exact one
  refine take_of_served takes ?_
  unfold serveCancel State.cancelTaken
  rw [scope_popFrame, ok, ← cancelLines_eq _ lines _ one' once]
  cases l <;> rfl

/-- What a CANCEL has made, beside what follows. -/
theorem cancelTaken_eq (s : State) (l : Link) (f : Frame) (lines : List Line) : s.cancelTaken l f lines =
    (((s.answered l f (s.cancelReply lines)).setPage
      { s.page with
        target := Table.tab fun ln =>
          if ln ∈ lines ∧ s.workInFlight ln = false then s.sensed ln else s.target ln }).setWriter
      { s.writer with
        lastUnsettled := Table.tab fun ln => s.writer.lastUnsettled.get ln && decide (ln ∉ lines)
        prompt := s.writer.prompt || s.cancelPrompts lines }).setEngine
      { s.engine with
        queue := s.engine.queue.filter (· ∉ lines)
        refresh := s.engine.refresh.map fun r =>
          { r with unsettled := Table.tab fun ln => r.unsettled.get ln && decide (ln ∉ lines) }
        stale := Table.tab fun z => s.engine.stale.get z && decide (zoneLine z ∉ lines)
        current := s.engine.current.filter (·.line ∉ lines)
        cancelled := s.workTaken (linkIdentity l) lines } := by
  unfold State.cancelTaken
  rw [promptIf_eq]
  cases l <;> rfl

theorem cancelPrompts_iff (s : State) (lines : List Line) : s.cancelPrompts lines = true ↔ ∃ ln ∈ lines,
    s.writer.lastUnsettled.get ln = true ∨
      (s.engine.refresh = none ∧ ∃ z, zoneLine z = ln ∧ s.engine.stale.get z = true) := by
  simp [State.cancelPrompts, mem_zonesOf]

theorem beside_cancelTaken : SameBesideEngine s (s.cancelTaken l f lines) := by
  rw [cancelTaken_eq]
  exact (((beside_answered s l f _).trans (.setPage _ _)).trans (.setWriter _ _)).trans (.setEngine _ _)

theorem workTaken_of_mem (one : s.oneInFlight) (who : Identity) {ln : Line} (mem : ln ∈ lines)
    (busy : s.workInFlight ln = true) : s.workTaken who lines = some ⟨ln, who, true, s.settings.verify⟩ := by
  unfold State.workTaken
  cases h : lines.find? s.workInFlight with
  | none => exact absurd busy (List.find?_eq_none.1 h ln mem)
  | some k => rw [one.unique (List.find?_some h) busy]

theorem workTaken_of_none (who : Identity) (none : ∀ ln ∈ lines, s.workInFlight ln = false) :
    s.workTaken who lines = s.engine.cancelled := by
  unfold State.workTaken
  have : lines.find? s.workInFlight = Option.none := List.find?_eq_none.2 fun ln h => by simp [none ln h]
  rw [this]

theorem afterCancel_of_still {who : Identity} (h : ¬ (s.engine.refresh.isSome ∧ s.quiet = true ∧ s.engine.current = none)) :
    s.afterCancel who = s := by
  unfold State.afterCancel
  rw [if_neg fun hc => h ?_]
  simpa [and_assoc] using hc

theorem afterCancel_of_follows {who : Identity} (h : s.engine.refresh.isSome ∧ s.quiet = true ∧ s.engine.current = none) :
    s.afterCancel who = if s.engine.queue = [] then s.closeDecision (some who) else s.choose := by
  unfold State.afterCancel
  rw [if_pos (by simpa [and_assoc] using h)]

theorem run_afterCancel {W : Line → Prop} (who : Identity) (work : Workable W s) :
    EngineRun W s (s.afterCancel who).settle := by
  have run : EngineRun W s (s.afterCancel who) := by
    by_cases h : s.engine.refresh.isSome ∧ s.quiet = true ∧ s.engine.current = none
    · rw [afterCancel_of_follows h]
      split
      · exact EngineRun.closeDecision s _
      · exact EngineRun.choose _ work
    · rw [afterCancel_of_still h]
  exact Relation.ReflTransGen.trans run (EngineRun.settle _ (work.run run))

/-- Settles O20: the lines leave one after the other; what follows works other lines. -/
theorem cancelTakesBackItsLines : Obligations.CancelTakesBackItsLines := by
  intro l f s lines panes hok takes ok reply
  obtain ⟨ascending, own⟩ := scope_lines ok
  have one : s.oneInFlight := fun w hw => (hok.cancelled w hw).1
  have goes := exec_cancel one takes ok
  have made := cancelTaken_eq s l f lines
  have beside : SameBesideEngine s (s.cancelTaken l f lines) := beside_cancelTaken
  obtain ⟨u, hu⟩ : ∃ u, u = s.cancelTaken l f lines := ⟨_, rfl⟩
  rw [← hu] at goes made beside
  have uengine : u.engine = { s.engine with
      queue := s.engine.queue.filter (· ∉ lines)
      refresh := s.engine.refresh.map fun r =>
        { r with unsettled := Table.tab fun ln => r.unsettled.get ln && decide (ln ∉ lines) }
      stale := Table.tab fun z => s.engine.stale.get z && decide (zoneLine z ∉ lines)
      current := s.engine.current.filter (·.line ∉ lines)
      cancelled := s.workTaken (linkIdentity l) lines } := by rw [made]; rfl
  have uwriter : u.writer = { s.writer with
      lastUnsettled := Table.tab fun ln => s.writer.lastUnsettled.get ln && decide (ln ∉ lines)
      prompt := s.writer.prompt || s.cancelPrompts lines } := by rw [made]; rfl
  have upage : u.page = { s.page with
      target := Table.tab fun ln =>
        if ln ∈ lines ∧ s.workInFlight ln = false then s.sensed ln else s.target ln } := by rw [made]; rfl
  have uquiet : u.quiet = s.quiet := by rw [made]; cases l <;> rfl
  have target : ∀ ln, u.target ln = if ln ∈ lines ∧ s.workInFlight ln = false then s.sensed ln else s.target ln :=
    fun ln => (congrArg (fun p : PageStore => p.target.get ln) upage).trans (Table.get_tab _ ln)
  have lastUnsettled : ∀ ln, u.writer.lastUnsettled.get ln = true ↔
      s.writer.lastUnsettled.get ln = true ∧ ln ∉ lines := fun ln => by
    rw [uwriter, Table.get_tab, Bool.and_eq_true, decide_eq_true_eq]
  have stale : ∀ z, u.engine.stale.get z = true ↔ s.engine.stale.get z = true ∧ zoneLine z ∉ lines := fun z => by
    rw [uengine, Table.get_tab, Bool.and_eq_true, decide_eq_true_eq]
  have taken : ∀ ln ∈ lines, s.workInFlight ln = true →
      u.engine.cancelled = some ⟨ln, linkIdentity l, true, s.settings.verify⟩ := fun ln mem busy => by
    rw [uengine]
    exact workTaken_of_mem one _ mem busy
  have owns : u.owns = s.owns := by
    funext who ln
    unfold State.owns
    rw [beside.panes]
  have follows : (s.engine.refresh.isSome ∧ s.quiet = true ∧ u.engine.current = none) ↔
      u.engine.refresh.isSome ∧ u.quiet = true ∧ u.engine.current = none := by
    rw [uquiet]
    refine and_congr_left' ?_
    rw [uengine, Option.isSome_map]
  refine ⟨workInFlight_iff s, ⟨u, beside, ?_, target, ?_, taken, fun none => ?_, lastUnsettled, ?_, fun closed => ?_,
    fun r hr => ?_, stale, fun still => ?_, fun h empty => ?_, fun h some => ?_⟩, ?_⟩
  · have page : u.page = { s.page with target := u.page.target } := by rw [upage]
    rw [uwriter, uengine, show u.page.target = _ from congrArg PageStore.target upage]
    exact made
  · rw [uengine]
  · rw [uengine]
    exact workTaken_of_none _ none
  · have prompt : u.writer.prompt = (s.writer.prompt || s.cancelPrompts lines) := by rw [uwriter]
    rw [prompt, Bool.or_eq_true, cancelPrompts_iff]
  · rw [uengine]
    exact congrArg (Option.map _) closed
  · refine ⟨_, by rw [uengine, hr]; rfl, fun ln => ?_⟩
    rw [Table.get_tab, Bool.and_eq_true, decide_eq_true_eq]
  · rw [goes, afterCancel_of_still (mt follows.2 still)]
  · rw [goes, afterCancel_of_follows (follows.1 h), if_pos empty]
  · rw [goes, afterCancel_of_follows (follows.1 h), if_neg some]
  · have apart : Workable (fun ln => ln ∉ lines) u := by
      refine ⟨fun ln hl => ?_, fun ln hl mem => ?_⟩
      · rw [uengine] at hl
        exact of_decide_eq_true (List.mem_filter.1 hl).2
      · rw [owns, panes.not_local (own ln mem)] at hl
        cases hl
    have run : EngineRun (fun ln => ln ∉ lines) u (u.afterCancel (linkIdentity l)).settle :=
      run_afterCancel _ apart
    obtain ⟨t, ht⟩ : ∃ t, t = (u.afterCancel (linkIdentity l)).settle := ⟨_, rfl⟩
    rw [← ht] at goes run
    have shift := EngineRun.shift run
    have images : ∀ ln, s.owns .localWriter ln = false → t.staging ln = s.staging ln ∧ t.target ln = u.target ln := by
      intro ln other
      obtain ⟨hs, ht⟩ := EngineRun.images run ln (by rw [owns]; exact other)
      refine ⟨hs.trans ?_, ht⟩
      unfold State.staging
      rw [upage]
    refine ⟨t, goes, fun ln mem => ⟨fun hl => ?_, ?_, fun z hz => ?_, ?_, ?_, fun busy => ?_⟩,
      fun ln out other => ?_, ?_, beside.trans (EngineRun.same run), ?_, (EngineRun.port run l).carries _ _ ?_⟩
    · rcases shift.queue ln hl with h | ⟨h, -⟩
      · exact apart.queued ln h mem
      · exact apart.written ln h mem
    · rw [← Bool.not_eq_true]
      intro h
      rcases EngineRun.lastUnsettled run ln h with h | h
      · exact ((lastUnsettled ln).1 h).2 mem
      · exact h mem
    · rw [← Bool.not_eq_true]
      intro h
      rcases shift.stale z h with h | ⟨-, h⟩
      · exact ((stale z).1 h).2 (hz ▸ mem)
      · exact h (hz ▸ mem)
    · exact (images ln (panes.not_local (own ln mem))).1
    · rw [(images ln (panes.not_local (own ln mem))).2, target]
      cases s.workInFlight ln <;> simp [mem]
    · rcases shift.cancelled with h | ⟨w, hw, h⟩
      · rw [h, taken ln mem busy]
      · rw [taken ln mem busy] at hw
        cases hw
        exact absurd mem (apart.written ln h)
    · obtain ⟨hs, ht⟩ := images ln other
      refine ⟨?_, hs⟩
      rw [ht, target, if_neg fun h => out h.1]
    · rw [EngineRun.sensed run, upage]
    · rw [EngineRun.stage run, made]
      cases l <;> rfl
    · have port : u.port l = (s.answered l f reply).port l := by rw [made]; cases l <;> rfl
      rw [port]
      exact carries_answered s l f reply

end Sys2Proof.Machine
end

section
/-! SUPPORT. What the engine's own work leaves: staging, target and the generation. -/

namespace Sys2Proof.Machine

open Host (Outcome)

/-- Staging, target and the generation are as they were. -/
structure ImagesKept (s t : State) : Prop where
  staging : t.page.staging = s.page.staging
  target : t.page.target = s.page.target
  generation : t.engine.generation = s.engine.generation

namespace ImagesKept

variable {s t u : State}

theorem refl (s : State) : ImagesKept s s := ⟨rfl, rfl, rfl⟩

theorem trans (h : ImagesKept s t) (k : ImagesKept t u) : ImagesKept s u :=
  ⟨k.staging.trans h.staging, k.target.trans h.target, k.generation.trans h.generation⟩

theorem foldl {α : Type} (f : State → α → State) (hf : ∀ s a, ImagesKept s (f s a)) (l : List α) :
    ∀ s, ImagesKept s (l.foldl f s) := by
  induction l with
  | nil => exact fun s => refl s
  | cons a l ih => exact fun s => (hf s a).trans (ih (f s a))

variable (s : State)

theorem setEngine {x : Engine} (h : x.generation = s.engine.generation := by rfl) : ImagesKept s (s.setEngine x) :=
  ⟨rfl, rfl, h⟩

theorem setPort (l : Link) (p : Port) : ImagesKept s (s.setPort l p) := by
  cases l <;> exact ⟨rfl, rfl, rfl⟩

theorem notify (l : Link) (n : Notice) : ImagesKept s (s.notify l n) := by
  unfold State.notify
  split
  · exact setPort s l _
  · exact refl s

theorem setOperation (op : Option Operation) : ImagesKept s (s.setOperation op) := ⟨rfl, rfl, rfl⟩

theorem startSense (k : SenseKind) (l : Line) : ImagesKept s (s.startSense k l) := ⟨rfl, rfl, rfl⟩

theorem startReturn : ImagesKept s s.startReturn := by
  unfold State.startReturn
  split
  · exact refl s
  · exact startSense s _ _

theorem closeRefresh (r : Refresh) (o : CloseOutcome) (e : Option Identity) : ImagesKept s (s.closeRefresh r o e) := by
  rw [closeRefresh_eq]
  refine (show ImagesKept s _ from ?_).trans (startReturn _)
  exact ⟨rfl, rfl, rfl⟩

theorem closeDecision (who : Option Identity) : ImagesKept s (s.closeDecision who) := by
  unfold State.closeDecision
  split
  · exact refl s
  · split
    · split
      · exact closeRefresh s _ _ _
      · split
        · exact closeRefresh s _ _ _
        · exact closeRefresh s _ _ _
    · split
      · exact closeRefresh s _ _ _
      · split
        · exact closeRefresh s _ _ _
        · exact trans (t := (s.updRefresh fun r => r.startDeadline s.settings.deferMs).setEngineState .deferred)
            ⟨rfl, rfl, rfl⟩ (startReturn _)

theorem offerPin (l : Line) (p : LinePin) : ImagesKept s (State.offerPin l s p) := by
  unfold State.offerPin
  split
  · dsimp only
    refine trans ?_ (notify _ _ _)
    exact ⟨rfl, rfl, rfl⟩
  · exact ⟨rfl, rfl, rfl⟩

theorem finishLine (c : Current) (search : Bool) : ImagesKept s (s.finishLine c search) := by
  unfold State.finishLine
  split
  · exact (foldl _ (fun s p => offerPin s c.line p) _ s).trans ⟨rfl, rfl, rfl⟩
  · exact ⟨rfl, rfl, rfl⟩

theorem suspend (c : Current) : ImagesKept s (s.suspend c) := by
  obtain ⟨fresh, -, h⟩ := suspend_eq s c
  rw [h]
  exact ⟨rfl, rfl, rfl⟩

theorem countClamps (n : Nat) : ImagesKept s (s.countClamps n) := by
  unfold State.countClamps
  split <;> exact ⟨rfl, rfl, rfl⟩

theorem fire (c : Current) (ks : List Pick) : ImagesKept s (s.fire c ks) := by
  unfold State.fire
  dsimp only
  refine trans ?_ ((countClamps _ _).trans ((setOperation _ _).trans (setEngine _)))
  exact ⟨rfl, rfl, rfl⟩

theorem packOrWait (c : Current) : ImagesKept s (s.packOrWait c) := by
  unfold State.packOrWait
  split
  · exact fire s c _
  · exact ⟨rfl, rfl, rfl⟩

theorem endRaise (c : Current) : ImagesKept s (s.endRaise c).1 := by
  unfold State.endRaise
  split
  · exact ⟨rfl, rfl, rfl⟩
  · exact finishLine s c _

theorem packingPoint (c : Current) : ImagesKept s (s.packingPoint c).1 := by
  unfold State.packingPoint
  split
  · exact suspend s c
  · split
    · exact packOrWait s c
    · split
      · exact endRaise s c
      · dsimp only
        split
        · exact packOrWait s _
        · exact endRaise s _

theorem takeLine (l : Line) : ImagesKept s (s.takeLine l).1 := by
  unfold State.takeLine
  dsimp only
  split
  · exact packingPoint s _
  · exact ⟨rfl, rfl, rfl⟩

theorem chooseLoop (n : Nat) : ∀ s : State, ImagesKept s (State.chooseLoop n s) := by
  induction n with
  | zero => exact fun s => refl s
  | succ n ih =>
    intro s
    rw [chooseLoop_succ]
    split
    · exact startReturn s
    · split
      · exact closeDecision s _
      · split
        · exact ⟨rfl, rfl, rfl⟩
        · rename_i l _
          split
          · exact (takeLine s l).trans (ih _)
          · exact takeLine s l

theorem kick : ImagesKept s s.kick := by
  unfold State.kick
  split
  · split
    · exact refl s
    · exact chooseLoop _ s
  · exact refl s

end ImagesKept

end Sys2Proof.Machine
end

section
/-! SUPPORT. The status-line writer. -/

namespace Sys2Proof.Machine

open Host (Outcome)

variable {s : State}

/-! ### What the writer composes (R46) -/

/-- The line has stale zones or was left unsettled. -/
def State.showsWork (s : State) (i : Line) : Prop :=
  (∃ z, zoneLine z = i ∧ s.engine.stale.get z = true) ∨ s.writer.lastUnsettled.get i = true

/-- The line has an entry in the fault map. -/
def State.showsFault (s : State) (i : Line) : Prop := ∃ e ∈ s.health.faultMap, e.line = i

/-- A status cell by its two marks. -/
theorem statusByte_cases (s : State) (i : Line) :
    (s.showsWork i → ¬ s.showsFault i → s.statusByte i = 36#8) ∧
    (¬ s.showsWork i → s.showsFault i → s.statusByte i = 192#8) ∧
    (s.showsWork i → s.showsFault i → s.statusByte i = 228#8) ∧
    (¬ s.showsWork i → ¬ s.showsFault i → s.statusByte i = 0#8) := by
  have work : s.showsWork i ↔
      ((zonesOf i).any s.engine.stale.get || s.writer.lastUnsettled.get i) = true := by
    simp [State.showsWork, mem_zonesOf]
  have fault : s.showsFault i ↔ (s.health.faultMap.any fun e => e.line == i) = true := by
    simp [State.showsFault]
  unfold State.statusByte
  rw [work, fault]
  dsimp only
  cases (zonesOf i).any s.engine.stale.get || s.writer.lastUnsettled.get i <;>
    cases s.health.faultMap.any fun e => e.line == i <;> decide

theorem composed_first {ln : Line} (h : ∃ p ∈ s.panes, p.owner = .localWriter ∧ p.first = ln) :
    s.composed ln = s.statusContent ln := by
  unfold State.composed
  rw [if_pos (by simpa using h)]

theorem composed_other {ln : Line} (h : ¬ ∃ p ∈ s.panes, p.owner = .localWriter ∧ p.first = ln) :
    s.composed ln = Table.fill 0 := by
  unfold State.composed
  rw [if_neg (by simpa using h)]
  rfl

theorem statusContent_line (s : State) {own i : Line} {c : Cell} (at_ : i.val = c.val) (other : i ≠ own) :
    (s.statusContent own).get c = s.statusByte i := by
  have h : c.val < 24 := at_ ▸ i.isLt
  have hi : (⟨c.val, h⟩ : Line) = i := Fin.ext at_.symm
  refine (Table.get_tab _ c).trans ?_
  rw [dif_pos h, if_neg fun h => other (Fin.ext (at_.trans h)), hi]

theorem statusContent_lowered (s : State) {own : Line} {c : Cell} (h : 24 ≤ c.val ∨ c.val = own.val) :
    (s.statusContent own).get c = 0 := by
  refine (Table.get_tab _ c).trans ?_
  rcases h with h | h
  · rw [dif_neg (by omega)]
  · rw [dif_pos (by omega), if_pos h]

/-! ### The recompute (R47) -/

theorem putStagings_eq (content : Line → Content) (ls : List Line) : ∀ s : State, ∃ staging : Image,
    (∀ ln, staging.get ln = if ln ∈ ls then content ln else s.staging ln) ∧
    ls.foldl (fun s l => s.putStaging l (content l)) s = s.setPage { s.page with staging := staging } := by
  induction ls with
  | nil => exact fun s => ⟨s.page.staging, fun ln => rfl, rfl⟩
  | cons k ls ih =>
    intro s
    obtain ⟨staging, hstaging, made⟩ := ih (s.putStaging k (content k))
    refine ⟨staging, fun ln => ?_, made.trans rfl⟩
    rw [hstaging]
    have first : (s.putStaging k (content k)).staging ln = if k = ln then content k else s.staging ln :=
      Table.get_set _ _ _ _
    rw [first]
    by_cases h : k = ln
    · subst h
      simp
    · simp [h, Ne.symm h]

theorem recompute_of_same (h : ∀ ln, s.owns .localWriter ln = true → s.staging ln = s.composed ln) :
    s.recompute = s := by
  unfold State.recompute
  refine if_pos ?_
  rw [List.all_eq_true]
  intro ln mem
  rw [h ln ((mem_ownedLines s _ ln).1 mem)]
  exact beq_self_eq_true _

theorem recompute_of_other (h : ∃ ln, s.owns .localWriter ln = true ∧ s.staging ln ≠ s.composed ln) :
    s.recompute = ((s.ownedLines .localWriter).foldl (fun t l => t.putStaging l (s.composed l)) s).commit .localWriter
      (s.ownedLines .localWriter) := by
  obtain ⟨ln, own, other⟩ := h
  unfold State.recompute
  refine if_neg fun all => other ?_
  exact eq_of_beq (List.all_eq_true.1 all ln ((mem_ownedLines s _ ln).2 own))

/-- A commit in the name of LOCAL with no refresh open. -/
theorem commit_of_closed (closed : s.engine.refresh = none) (ls : List Line) :
    (s.dirtyLines ls = [] → s.commit .localWriter ls = s.commitLines ls) ∧
    (s.dirtyLines ls ≠ [] → s.commit .localWriter ls =
      ((s.commitLines ls).openRefresh ⟨false, false, true⟩ (s.dirtyLines ls)).kick) := by
  unfold State.commit
  refine ⟨fun none => by rw [none, handLines_nil], fun found => ?_⟩
  rw [handLines_of_ne _ found]
  unfold State.handedOver
  rw [refresh_commitLines, closed]
  rfl

/-- What a recompute makes where a line differs. -/
structure Recomputed (s t : State) : Prop where
  mine : ∀ ln, s.owns .localWriter ln = true → t.staging ln = s.composed ln ∧ t.target ln = s.composed ln
  others : ∀ ln, ¬ s.owns .localWriter ln = true → t.staging ln = s.staging ln ∧ t.target ln = s.target ln
  opens : (∃ ln, s.owns .localWriter ln = true ∧ (s.target ln ≠ s.composed ln ∨
      ∃ p, pinState (s.composed ln) p ≠ pinState (s.sensed ln) p ∧ s.faultMapped ln p = false)) →
    t.engine.generation = s.engine.generation + 1 ∧
      (s.quiet = false → ∃ r, t.engine.refresh = some r ∧ r.requesters = ⟨false, false, true⟩)
  stays : (∀ ln, ¬ (s.owns .localWriter ln = true ∧ (s.target ln ≠ s.composed ln ∨
      ∃ p, pinState (s.composed ln) p ≠ pinState (s.sensed ln) p ∧ s.faultMapped ln p = false))) →
    t.engine.generation = s.engine.generation ∧ t.engine.refresh = none

theorem recomputed_recompute (closed : s.engine.refresh = none)
    (h : ∃ ln, s.owns .localWriter ln = true ∧ s.staging ln ≠ s.composed ln) : Recomputed s s.recompute := by
  obtain ⟨ls, hls⟩ : ∃ ls, ls = s.ownedLines .localWriter := ⟨_, rfl⟩
  have mem : ∀ ln, ln ∈ ls ↔ s.owns .localWriter ln = true := fun ln => hls ▸ mem_ownedLines s _ ln
  have once : ls.Nodup := hls ▸ nodup_of_pairwise_lt (pairwise_filter_allLines _)
  obtain ⟨staging, hstaging, put⟩ := putStagings_eq s.composed ls s
  obtain ⟨w, hw⟩ : ∃ w, w = s.setPage { s.page with staging := staging } := ⟨_, rfl⟩
  have made : s.recompute = w.commit .localWriter ls := by
    rw [recompute_of_other h, ← hls, put, hw]
  have wstaging : ∀ ln, w.staging ln = if ln ∈ ls then s.composed ln else s.staging ln := fun ln => by
    rw [hw]
    exact hstaging ln
  have wengine : w.engine = s.engine := by rw [hw]; rfl
  have wdirty : ∀ ln, w.dirtyLine ln = true ↔ s.target ln ≠ w.staging ln ∨
      ∃ p, pinState (w.staging ln) p ≠ pinState (s.sensed ln) p ∧ s.faultMapped ln p = false := fun ln => by
    rw [dirtyLine_iff, hw]
    rfl
  have dirty : w.dirtyLines ls ≠ [] ↔ ∃ ln, s.owns .localWriter ln = true ∧ (s.target ln ≠ s.composed ln ∨
      ∃ p, pinState (s.composed ln) p ≠ pinState (s.sensed ln) p ∧ s.faultMapped ln p = false) := by
    rw [dirtyLines_ne_nil]
    refine exists_congr fun ln => ?_
    rw [mem]
    refine and_congr_right fun own => ?_
    rw [wdirty, wstaging, if_pos ((mem ln).2 own)]
  obtain ⟨target, htarget, committed⟩ := commitLines_eq ls w once
  obtain ⟨v, hv⟩ : ∃ v, v = w.commitLines ls := ⟨_, rfl⟩
  rw [← hv] at committed
  obtain ⟨keeps, opens⟩ := commit_of_closed (s := w) (wengine ▸ closed) ls
  rw [← made, ← hv] at keeps opens
  have vgeneration : v.engine.generation = s.engine.generation := by rw [committed, ← wengine]; rfl
  have images : v.page.staging = s.recompute.page.staging ∧ v.page.target = s.recompute.page.target ∧
      (w.dirtyLines ls ≠ [] → s.recompute.engine.generation = s.engine.generation + 1) := by
    by_cases none : w.dirtyLines ls = []
    · rw [keeps none]
      exact ⟨rfl, rfl, fun h => absurd none h⟩
    · obtain ⟨_, -, opened⟩ := openRefresh_eq v ⟨false, false, true⟩ (nodup_dirtyLines (s := w) once)
      have kept := ImagesKept.kick (v.openRefresh ⟨false, false, true⟩ (w.dirtyLines ls))
      rw [← opens none] at kept
      refine ⟨?_, ?_, fun _ => ?_⟩
      · rw [kept.staging, opened]
        rfl
      · rw [kept.target, opened]
        rfl
      · rw [kept.generation, opened, ← vgeneration]
        rfl
  obtain ⟨imStaging, imTarget, generation⟩ := images
  have tstaging : ∀ ln, s.recompute.staging ln = w.staging ln := fun ln => by
    unfold State.staging
    rw [← imStaging, committed]
    rfl
  have ttarget : ∀ ln, s.recompute.target ln = if ln ∈ ls then w.staging ln else s.target ln := fun ln => by
    unfold State.target
    rw [← imTarget, committed]
    refine (htarget ln).trans (if_congr Iff.rfl rfl ?_)
    rw [hw]
    rfl
  refine ⟨fun ln own => ?_, fun ln other => ?_, fun found => ?_, fun none => ?_⟩
  · rw [tstaging, ttarget, if_pos ((mem ln).2 own), wstaging, if_pos ((mem ln).2 own)]
    exact ⟨rfl, rfl⟩
  · rw [tstaging, ttarget, if_neg (mt (mem ln).1 other), wstaging, if_neg (mt (mem ln).1 other)]
    exact ⟨rfl, rfl⟩
  · rw [← dirty] at found
    refine ⟨generation found, fun busy => ?_⟩
    obtain ⟨unavailable, -, opened⟩ := openRefresh_eq v ⟨false, false, true⟩ (nodup_dirtyLines (s := w) once)
    have still : (v.openRefresh ⟨false, false, true⟩ (w.dirtyLines ls)).quiet = false := by
      rw [opened, committed, ← busy, hw]
      rfl
    rw [opens found, kick_of_busy still, opened]
    exact ⟨_, rfl, rfl⟩
  · have none' : w.dirtyLines ls = [] := by
      by_contra found
      obtain ⟨ln, h⟩ := dirty.1 found
      exact none ln h
    rw [keeps none']
    refine ⟨vgeneration, ?_⟩
    rw [hv, refresh_commitLines, wengine, closed]

end Sys2Proof.Machine
end

section
/-! SUPPORT. The answers to a prompt. -/

namespace Sys2Proof.Machine

variable {s : State}

/-- Once no prompt is raised, further answers change nothing. -/
theorem answers_of_done {n m : Nat} (done : (State.answerPrompt^[n] s).writer.prompt = false) (h : n ≤ m) :
    State.answerPrompt^[m] s = State.answerPrompt^[n] s := by
  obtain ⟨k, rfl⟩ := Nat.exists_eq_add_of_le' h
  rw [Function.iterate_add_apply, ← answerPrompts_eq_iterate k, answerPrompts_of_no_prompt k done]

/-- The end of an event: its answers until no prompt is raised, or one answer of a chain that is longer. -/
theorem settle_cases (s : State) :
    (∃ n, s.settle = State.answerPrompt^[n] s ∧ s.settle.writer.prompt = false ∧
      ∀ m < n, (State.answerPrompt^[m] s).writer.prompt = true) ∨
    (s.settle = State.answerPrompt^[1] s ∧ ∀ n ≤ 4096, (State.answerPrompt^[n] s).writer.prompt = true) := by
  have whole := settle_eq s
  have limit : Config.recomputeLimit = 4096 := rfl
  rw [limit] at whole
  cases long : (State.answerPrompt^[4096] s).writer.prompt with
  | true =>
    rw [if_pos long] at whole
    refine Or.inr ⟨whole, fun n hn => ?_⟩
    by_contra h
    have done := Bool.not_eq_true _ ▸ h
    rw [answers_of_done done hn, done] at long
    cases long
  | false =>
    rw [if_neg (Bool.eq_false_iff.1 long)] at whole
    have ends : ∃ n, (State.answerPrompt^[n] s).writer.prompt = false := ⟨4096, long⟩
    have last : s.settle = State.answerPrompt^[Nat.find ends] s := by
      rw [whole, answers_of_done (Nat.find_spec ends) (Nat.find_min' ends long)]
    refine Or.inl ⟨Nat.find ends, last, by rw [last]; exact Nat.find_spec ends, fun m hm => ?_⟩
    simpa using Nat.find_min ends hm

/-- Settles O46: an answer by its cases, a recompute by the commit of LOCAL's lines, and the chain of answers. -/
theorem statusLineWriterShowsWorkAndFaults : Obligations.StatusLineWriterShowsWorkAndFaults := by
  refine ⟨fun s prompt => ?_, settle_cases⟩
  intro work fault shown first mine answered t
  have dropped : t = answered → t = answered ∧ s.settle = answered := fun h =>
    ⟨h, (settle_of_answered (s := s) (congrArg (fun u : State => u.writer.prompt) h)).trans h⟩
  refine ⟨fun h => dropped ?_, fun closed running => ?_⟩
  · rcases h with opened | starting
    · exact answerPrompt_of_open opened
    · exact answerPrompt_of_starting starting
  have answer : t = answered.recompute := answerPrompt_of_closed prompt closed running
  refine ⟨s.composed, fun ln hfirst c => ?_, fun ln other => composed_other other, fun same => dropped ?_,
    fun other => ?_⟩
  · rw [composed_first hfirst]
    refine ⟨fun i at_ ne => ?_, fun h => statusContent_lowered s h⟩
    rw [statusContent_line s at_ ne]
    exact statusByte_cases s i
  · exact answer.trans (recompute_of_same same)
  · have made : Recomputed answered t := answer ▸ recomputed_recompute (s := answered) closed other
    have run : EngineRun (fun _ => True) s t := EngineRun.answerPrompt s (Workable.all s)
    refine ⟨made.mine, made.others, EngineRun.sensed run, EngineRun.same run, made.opens, made.stays, fun busy => ?_⟩
    obtain ⟨once, kept⟩ := settle_of_busy busy
    exact ⟨once, kept.writer, kept.ports, kept.health⟩

end Sys2Proof.Machine
end

section
/-! SUPPORT. The trim lists taken between the two trim updates of a verify, and the flags of the ports. -/

namespace Sys2Proof.Machine

open Host (Outcome)

variable {s t : State} {l k : Link} {f : Frame}

/-! ### DRIVE_LIMIT stays set -/

theorem driveLimit_pushNotice (p : Port) (n : Notice) : (p.pushNotice n).flags.driveLimit = p.flags.driveLimit := by
  unfold Port.pushNotice
  split
  · dsimp only
    rw [startSend_flags]
  · rw [startSend_flags]

theorem driveLimit_flagBoth {g : Port → Port} (hg : ∀ p, p.flags.driveLimit = true → (g p).flags.driveLimit = true)
    (on : (s.port l).flags.driveLimit = true) : ((s.flagBoth g).port l).flags.driveLimit = true := by
  cases l with
  | station => exact hg _ on
  | patron =>
    show (if s.ports.presence then g s.ports.patron else s.ports.patron).flags.driveLimit = true
    split
    · exact hg _ on
    · exact on

theorem EngineMove.limitStands {W : Line → Prop} (h : EngineMove W s t) (on : (s.port l).flags.driveLimit = true) :
    (t.port l).flags.driveLimit = true := by
  cases h with
  | notice k n _ =>
    by_cases hk : k = l
    · subst hk
      rw [port_setPort_same, driveLimit_pushNotice]
      exact on
    · rw [port_setPort_other _ _ hk]
      exact on
  | driveLimit => exact driveLimit_flagBoth (fun _ _ => rfl) on
  | mapFull => exact driveLimit_flagBoth (fun _ h => h) on
  | _ =>
    rw [port_of_ports_eq (s := s) (by simp [State.putStaging, State.putTarget, State.setOperation]) l]
    exact on

theorem BlockRun.limitStands (h : BlockRun s t) (on : (s.port l).flags.driveLimit = true) :
    (t.port l).flags.driveLimit = true := by
  induction h with
  | refl => exact on
  | tail _ hm ih =>
    cases hm with
    | engine h => exact h.limitStands ih
    | _ => cases l <;> exact ih

/-! ### A TRIM_LIST at its handler (R145) -/

theorem takeTrimList_none (h : s.takeable l = none) : s.takeTrimList l = s := by
  simp [State.takeTrimList, execTrimList, State.take, h]

theorem takeTrimList_some (h : s.takeable l = some f) : s.takeTrimList l =
    if f.kind = kindCode .trimList then
      match s.screen l .trimList f.payload.length with
      | some why => s.turnedAway l f why
      | none => s.answered l f (.trims s.health.trims)
    else s := by
  unfold State.takeTrimList execTrimList State.take
  rw [h]
  by_cases hk : f.kind = kindCode .trimList
  · simp only [hk, if_true]
    cases s.screen l .trimList f.payload.length with
    | some why => rfl
    | none =>
      have health : (s.popFrame l).health = s.health := setPort_health ..
      simp only [serveTrimList, health]
      rfl
  · simp only [hk, if_false]

theorem takeTrimList_of_takes (h : Takes s l .trimList f) : s.takeTrimList l = s.answered l f (.trims s.health.trims) := by
  obtain ⟨takeable, kind, screen⟩ := h
  rw [takeTrimList_some takeable, if_pos kind, screen]

theorem takeable_of_carries {tag : Byte} {r : Reply} (h : (s.port l).carries (.reply tag r)) : s.takeable l = none := by
  unfold State.takeable
  rw [replyOutstanding_of_carries h]
  simp

/-- A handler takes one TRIM_LIST: its reply is then outstanding. -/
theorem takeTrimList_twice (s : State) (l : Link) : (s.takeTrimList l).takeTrimList l = s.takeTrimList l := by
  cases h : s.takeable l with
  | none => rw [takeTrimList_none h, takeTrimList_none h]
  | some f =>
    have made := takeTrimList_some h
    by_cases hk : f.kind = kindCode .trimList
    · rw [if_pos hk] at made
      refine takeTrimList_none ?_
      cases screened : s.screen l .trimList f.payload.length with
      | some why =>
        rw [screened] at made
        rw [made]
        exact takeable_of_carries (carries_turnedAway s l f why)
      | none =>
        rw [screened] at made
        rw [made]
        exact takeable_of_carries (carries_answered s l f _)
    · rw [if_neg hk] at made
      rw [made, made]

/-- What a handler of a link takes depends on that link's port. -/
theorem port_takeTrimList_congr (port : t.port l = s.port l) (takeable : t.takeable l = s.takeable l)
    (screen : t.screen l = s.screen l) (trims : t.health.trims = s.health.trims) :
    (t.takeTrimList l).port l = (s.takeTrimList l).port l := by
  cases h : s.takeable l with
  | none => rw [takeTrimList_none h, takeTrimList_none (takeable.trans h), port]
  | some f =>
    rw [takeTrimList_some h, takeTrimList_some (takeable.trans h), screen, trims]
    split
    · split
      · rw [State.turnedAway, State.turnedAway, State.refuse, State.refuse, State.popFrame, State.popFrame]
        simp only [port_setPort_same, port]
      · rw [State.answered, State.answered, State.sendReply, State.sendReply, State.popFrame, State.popFrame]
        simp only [port_setPort_same, port]
    · exact port

/-- The handler of another link leaves what this link's handler takes. -/
theorem port_takeTrimList_other (h : k ≠ l) : (s.takeTrimList k).port l = s.port l ∧
    ((s.takeTrimList k).takeTrimList l).port l = (s.takeTrimList l).port l := by
  obtain ⟨p, hp⟩ := takeTrimList_eq s k
  have port : (s.takeTrimList k).port l = s.port l := by rw [hp, port_setPort_other _ _ h]
  refine ⟨port, port_takeTrimList_congr port ?_ ?_ ?_⟩
  · have service : (s.setPort k p).inService l = s.inService l := by cases k <;> cases l <;> rfl
    rw [hp] at port ⊢
    unfold State.takeable
    rw [port, service, setPort_resetWait]
  · rw [hp]
    funext kind n
    unfold State.screen State.loading
    rw [setPort_stage]
  · rw [hp, setPort_health]

/-- The ports after the TRIM_LISTs between the two updates: each handler named has taken one. -/
theorem port_takeTrimLists (l : Link) (ls : List Link) : ∀ s : State,
    (ls.foldl State.takeTrimList s).port l = if l ∈ ls then (s.takeTrimList l).port l else s.port l := by
  induction ls with
  | nil => exact fun s => by simp
  | cons k ls ih =>
    intro s
    rw [List.foldl_cons, ih]
    by_cases h : k = l
    · subst h
      rw [takeTrimList_twice]
      simp
    · obtain ⟨port, taken⟩ := port_takeTrimList_other (s := s) h
      rw [port, taken]
      simp [Ne.symm h]

theorem driveLimit_takeTrimList (s : State) (l : Link) :
    ((s.takeTrimList l).port l).flags.driveLimit = (s.port l).flags.driveLimit := by
  have replied : ∀ (p : Port) (tag : Byte) (r : Reply), (p.pushReply tag r).flags = p.flags := fun p tag r => by
    unfold Port.pushReply
    rw [startSend_flags]
  cases h : s.takeable l with
  | none => rw [takeTrimList_none h]
  | some f =>
    rw [takeTrimList_some h]
    split
    · split
      · rw [State.turnedAway, State.refuse, State.popFrame]
        simp only [port_setPort_same, replied]
      · rw [State.answered, State.sendReply, State.popFrame]
        simp only [port_setPort_same, replied]
    · rfl

theorem driveLimit_takeTrimLists (l : Link) (ls : List Link) (s : State) :
    ((ls.foldl State.takeTrimList s).port l).flags.driveLimit = (s.port l).flags.driveLimit := by
  rw [port_takeTrimLists]
  split
  · exact driveLimit_takeTrimList s l
  · rfl

end Sys2Proof.Machine
end

section
/-! SUPPORT. The trims after a verify. -/

namespace Sys2Proof.Machine

open Host (Outcome)

variable {s : State} {c : Current} {previous : Content} {b : BankId}

/-! ### The counts of a bank (R123, R127) -/

theorem classCount_eq_card {k : PinClass} {x : Finset LinePin}
    (h : ∀ p, p ∈ x ↔ pinBank c.line p = b ∧ s.pinClass c previous p = k) : s.classCount c previous b k = x.card := by
  have once : (allPins.filter fun p => pinBank c.line p == b && s.pinClass c previous p == k).Nodup :=
    (List.nodup_finRange 320).filter _
  unfold State.classCount
  rw [List.countP_eq_length_filter, ← List.toFinset_card_of_nodup once]
  refine congrArg Finset.card (Finset.ext fun p => ?_)
  rw [h]
  simp [mem_allPins]

/-- The pin differs from its target, and nothing takes it out of the comparison (R123). -/
def State.comparedWrong (s : State) (c : Current) (p : LinePin) : Prop :=
  pinState (s.sensed c.line) p ≠ pinState (s.target c.line) p ∧ s.faultMapped c.line p = false ∧
    s.guarded (pinZone c.line p) = false ∧ (c.round.pins.get p).retargeted = false

theorem pinClass_of_wrong {p : LinePin} (h : s.comparedWrong c p) : s.pinClass c previous p =
    if (c.round.pins.get p).firedInRound then .underStroke
    else if pinState (s.sensed c.line) p != pinState previous p then .disturbed else .left := by
  obtain ⟨wrong, unmapped, free, kept⟩ := h
  have mismatched : s.mismatched c.line p = true := by simpa [State.mismatched] using Ne.symm wrong
  unfold State.pinClass
  simp only [mismatched, unmapped, free, kept, Bool.not_true, Bool.false_eq_true, if_false]

theorem pinClass_of_right {p : LinePin} (h : ¬ s.comparedWrong c p) :
    s.pinClass c previous p ≠ .underStroke ∧ s.pinClass c previous p ≠ .disturbed := by
  unfold State.pinClass
  split
  · exact ⟨by decide, by decide⟩
  next matched =>
    split
    · exact ⟨by decide, by decide⟩
    next unmapped =>
      split
      · exact ⟨by decide, by decide⟩
      next free =>
        split
        · exact ⟨by decide, by decide⟩
        next kept =>
          have mismatched : s.mismatched c.line p = true := by simpa using matched
          refine absurd ⟨fun same => ?_, by simpa using unmapped, by simpa using free, by simpa using kept⟩ h
          simp [State.mismatched, same] at mismatched

theorem pinClass_underStroke (p : LinePin) : s.pinClass c previous p = .underStroke ↔
    s.comparedWrong c p ∧ (c.round.pins.get p).firedInRound = true := by
  by_cases h : s.comparedWrong c p
  · rw [pinClass_of_wrong h]
    cases (c.round.pins.get p).firedInRound with
    | true => simp [h]
    | false => simp; split <;> simp
  · simp [h, (pinClass_of_right h).1]

theorem pinClass_disturbed (p : LinePin) : s.pinClass c previous p = .disturbed ↔
    s.comparedWrong c p ∧ (c.round.pins.get p).firedInRound = false ∧
      pinState (s.sensed c.line) p ≠ pinState previous p := by
  by_cases h : s.comparedWrong c p
  · rw [pinClass_of_wrong h]
    cases (c.round.pins.get p).firedInRound with
    | true => simp
    | false => simp [h]
  · simp [h, (pinClass_of_right h).2]

/-! ### One bank handed over (R143, R144) -/

theorem driveLimit_handBank {l : Link} (saturates : trimSaturates (s.health.trims.get b)
      (s.classCount c previous b .underStroke) (s.classCount c previous b .disturbed) = true)
    (served : l = .patron → s.ports.presence = true) :
    ((s.handBank c previous b).port l).flags.driveLimit = true := by
  unfold State.handBank State.updateTrim
  rw [if_pos saturates]
  cases l with
  | station => rfl
  | patron =>
    show (if s.ports.presence then setDriveLimit s.ports.patron else s.ports.patron).flags.driveLimit = true
    rw [if_pos (served rfl)]
    rfl

/-- Handing over a bank writes a trim, and may set DRIVE_LIMIT. -/
theorem handBank_cases (s : State) (c : Current) (previous : Content) (b : BankId) : ∃ trims : Table Int 48,
    s.handBank c previous b = s.setHealth { s.health with trims := trims } ∨
      s.handBank c previous b = (s.setHealth { s.health with trims := trims }).flagBoth setDriveLimit := by
  refine ⟨s.health.trims.set b (trimUpdate (s.health.trims.get b) (s.classCount c previous b .underStroke)
    (s.classCount c previous b .disturbed)), ?_⟩
  unfold State.handBank State.updateTrim
  dsimp only
  split
  · exact Or.inr rfl
  · exact Or.inl rfl

theorem presence_handBank : (s.handBank c previous b).ports.presence = s.ports.presence := by
  obtain ⟨trims, h | h⟩ := handBank_cases s c previous b
  · rw [h]
    rfl
  · rw [h]
    rfl

theorem frames_handBank (l : Link) : ((s.handBank c previous b).port l).frames = (s.port l).frames :=
  (BlockRun.port (BlockRun.handBank s c previous b) l).frames

/-- A flag in a port does not keep its handler from a request. -/
theorem takes_flagBoth {l : Link} {k : RequestKind} {f : Frame} (h : Takes s l k f) :
    Takes (s.flagBoth setDriveLimit) l k f := by
  obtain ⟨takeable, kind, screen⟩ := h
  rw [takeable_eq_some_iff] at takeable
  obtain ⟨service, reset, free, first⟩ := takeable
  refine ⟨(takeable_eq_some_iff ..).2 ?_, kind, screen⟩
  cases l with
  | station => exact ⟨service, reset, free, first⟩
  | patron =>
    refine ⟨service, reset, ?_, ?_⟩
    · show (if s.ports.presence then setDriveLimit s.ports.patron else s.ports.patron).replyOutstanding = false
      split <;> exact free
    · show (if s.ports.presence then setDriveLimit s.ports.patron else s.ports.patron).frames.head? = some f
      split <;> exact first

theorem takes_handBank {l : Link} {k : RequestKind} {f : Frame} (h : Takes s l k f) :
    Takes (s.handBank c previous b) l k f := by
  obtain ⟨trims, made | made⟩ := handBank_cases s c previous b
  · rw [made]
    cases l <;> exact h
  · rw [made]
    refine takes_flagBoth ?_
    cases l <;> exact h

end Sys2Proof.Machine
end

section
/-! SUPPORT. A verify sense and its trims. -/

namespace Sys2Proof.Machine

open Host (Outcome)

variable {s : State} {l : Link} {f : Frame}

theorem frames_answered (s : State) (l : Link) (f : Frame) (r : Reply) :
    ((s.answered l f r).port l).frames = (s.port l).frames.tail := by
  rw [State.answered, State.sendReply, State.popFrame]
  simp only [port_setPort_same, Port.pushReply]
  rw [startSend_frames]

theorem presence_takeTrimLists (ls : List Link) : ∀ s : State,
    (ls.foldl State.takeTrimList s).ports.presence = s.ports.presence := by
  induction ls with
  | nil => exact fun _ => rfl
  | cons k ls ih =>
    intro s
    obtain ⟨p, hp⟩ := takeTrimList_eq s k
    rw [List.foldl_cons, ih, hp, setPort_presence]

theorem trims_verifyDecision (s : State) (c : Current) : (s.verifyDecision c).health.trims = s.health.trims := by
  unfold State.verifyDecision
  split
  · exact (workKept_packingPoint s _).same.trims
  · exact (EngineRun.same ((EngineRun.finishLine (W := fun _ => True) s c _ trivial).trans
      (EngineRun.choose _ (Workable.all _)))).trims

/-- A bank lies on the line it is numbered for. -/
theorem bank_of_line (b : BankId) (ln : Line) : b.val / 2 = ln.val ↔ b = firstBank ln ∨ b = secondBank ln := by
  rw [Fin.ext_iff, Fin.ext_iff]
  show _ ↔ b.val = 2 * ln.val ∨ b.val = 2 * ln.val + 1
  omega

/-- The trims after both updates of a verify, and the flag where one of them saturates. -/
structure BothHanded (s t : State) (c : Current) (previous : Content) (between : List Link) : Prop where
  first : ∀ b, (s.handBank c previous (firstBank c.line)).health.trims.get b =
    if b = firstBank c.line then trimUpdate (s.health.trims.get b) (s.classCount c previous b .underStroke)
      (s.classCount c previous b .disturbed) else s.health.trims.get b
  both : ∀ b, t.health.trims.get b = if b.val / 2 = c.line.val then trimUpdate (s.health.trims.get b)
      (s.classCount c previous b .underStroke) (s.classCount c previous b .disturbed) else s.health.trims.get b
  limit : ∀ b, b.val / 2 = c.line.val → trimSaturates (s.health.trims.get b)
      (s.classCount c previous b .underStroke) (s.classCount c previous b .disturbed) = true →
    ∀ l : Link, (l = .patron → s.ports.presence = true) → (t.port l).flags.driveLimit = true
  frames : ∀ l, l ∉ between → (t.port l).frames = (s.port l).frames
  taken : ∀ l f, l ∈ between → Takes s l .trimList f → (t.port l).frames = (s.port l).frames.tail ∧
    (t.port l).carries (.reply f.tag (.trims (s.handBank c previous (firstBank c.line)).health.trims))

theorem bothHanded_updateTrims (s : State) (c : Current) (previous : Content) (between : List Link) :
    BothHanded s (s.updateTrims c previous between) c previous between := by
  obtain ⟨a, ha⟩ : ∃ a, a = s.handBank c previous (firstBank c.line) := ⟨_, rfl⟩
  obtain ⟨m, hm⟩ : ∃ m, m = between.foldl State.takeTrimList a := ⟨_, rfl⟩
  obtain ⟨t, ht⟩ : ∃ t, t = m.handBank c previous (secondBank c.line) := ⟨_, rfl⟩
  have made : s.updateTrims c previous between = t := by
    rw [ht, hm, ha]
    rfl
  have counts : ∀ b k, m.classCount c previous b k = s.classCount c previous b k := fun b k => by
    obtain ⟨trims, ports, first⟩ := handBank_eq s c previous (firstBank c.line)
    obtain ⟨ports', taken⟩ := takeTrimLists_eq between a
    rw [hm, taken, ha, first]
    rfl
  have atrims : a.health.trims = s.health.trims.set (firstBank c.line) (trimUpdate
      (s.health.trims.get (firstBank c.line)) (s.classCount c previous (firstBank c.line) .underStroke)
      (s.classCount c previous (firstBank c.line) .disturbed)) := ha ▸ trims_handBank s c previous _
  have mhealth : m.health = a.health := by rw [hm, health_takeTrimLists]
  have apart := firstBank_ne_secondBank c.line
  have second : m.health.trims.get (secondBank c.line) = s.health.trims.get (secondBank c.line) := by
    rw [mhealth, atrims, Table.get_set_other _ _ apart]
  have ttrims : t.health.trims = a.health.trims.set (secondBank c.line) (trimUpdate
      (s.health.trims.get (secondBank c.line)) (s.classCount c previous (secondBank c.line) .underStroke)
      (s.classCount c previous (secondBank c.line) .disturbed)) := by
    rw [ht, trims_handBank, counts, counts, second, mhealth]
  have tport : ∀ l, PortKept (m.port l) (t.port l) := fun l => ht ▸ BlockRun.port (BlockRun.handBank m c previous _) l
  rw [made]
  refine ⟨fun b => ?_, fun b => ?_, fun b onLine saturates l served => ?_, fun l out => ?_, fun l f mem takes => ?_⟩
  · rw [← ha, atrims]
    by_cases h : b = firstBank c.line
    · rw [if_pos h, h, Table.get_set_same]
    · rw [if_neg h, Table.get_set_other _ _ (Ne.symm h)]
  · rw [ttrims]
    by_cases onLine : b.val / 2 = c.line.val
    · rw [if_pos onLine]
      rcases (bank_of_line b c.line).1 onLine with h | h
      · rw [h, Table.get_set_other _ _ (Ne.symm apart), atrims, Table.get_set_same]
      · rw [h, Table.get_set_same]
    · rw [if_neg onLine]
      obtain ⟨hf, hs⟩ := not_or.1 (mt (bank_of_line b c.line).2 onLine)
      rw [Table.get_set_other _ _ (Ne.symm hs), atrims, Table.get_set_other _ _ (Ne.symm hf)]
  · rcases (bank_of_line b c.line).1 onLine with h | h
    · rw [h] at saturates
      have set : (m.port l).flags.driveLimit = true := by
        rw [hm, driveLimit_takeTrimLists, ha]
        exact driveLimit_handBank saturates served
      rw [ht]
      exact (BlockRun.handBank m c previous _).limitStands set
    · rw [h] at saturates
      rw [ht]
      refine driveLimit_handBank (by rw [second, counts, counts]; exact saturates) fun h => ?_
      rw [hm, presence_takeTrimLists, ha, presence_handBank]
      exact served h
  · rw [(tport l).frames, hm, port_takeTrimLists, if_neg out, ha, frames_handBank]
  · have atakes : Takes a l .trimList f := ha ▸ takes_handBank takes
    have port : m.port l = (a.answered l f (.trims a.health.trims)).port l := by
      rw [hm, port_takeTrimLists, if_pos mem, takeTrimList_of_takes atakes]
    refine ⟨?_, (tport l).carries _ _ ?_⟩
    · rw [(tport l).frames, port, frames_answered, ha, frames_handBank]
    · rw [port, ← ha]
      exact carries_answered a l f _

/-- Settles O42: by the two updates of the trim table; what follows keeps trims, frames and replies. -/
theorem verifySenseMovesTheTrims : Obligations.VerifySenseMovesTheTrims := by
  intro states trimLists s c op current free wrong under disturbed u d hu hd moved
  obtain ⟨e, he⟩ : ∃ e, e = s.endSense c.line states := ⟨_, rfl⟩
  obtain ⟨w, hw⟩ : ∃ w : Current, w = ⟨c.line, c.round.sensedNow⟩ := ⟨_, rfl⟩
  have line : w.line = c.line := by rw [hw]
  have pins : ∀ p, (w.round.pins.get p).retargeted = (c.round.pins.get p).retargeted ∧
      (w.round.pins.get p).firedInRound = (c.round.pins.get p).firedInRound := fun p => by
    have : w.round.pins.get p = { c.round.pins.get p with drivenSinceSense := false } := by
      rw [hw]
      exact Table.get_tab _ p
    rw [this]
    exact ⟨rfl, rfl⟩
  have sensed : e.sensed c.line = states := by
    rw [he]
    exact Table.get_set_same _ _ _
  have compared : ∀ p, e.comparedWrong w p ↔ wrong p := fun p => by
    unfold State.comparedWrong
    rw [line, sensed, (pins p).1, he]
    rfl
  have unders : ∀ b, e.classCount w (s.sensed c.line) b .underStroke = (u b).card := fun b =>
    classCount_eq_card fun p => by
      rw [hu, line, pinClass_underStroke, compared, (pins p).2]
  have disturbs : ∀ b, e.classCount w (s.sensed c.line) b .disturbed = (d b).card := fun b =>
    classCount_eq_card fun p => by
      rw [hd, line, pinClass_disturbed, compared, (pins p).2, line, sensed]
  have trims : e.health.trims = s.health.trims := by rw [he]; rfl
  have moves : ∀ b, trimUpdate (e.health.trims.get b) (e.classCount w (s.sensed c.line) b .underStroke)
      (e.classCount w (s.sensed c.line) b .disturbed) = moved b := fun b => by
    rw [unders, disturbs, trims]
    rfl
  have handed := bothHanded_updateTrims e w (s.sensed c.line) trimLists
  obtain ⟨v, hv⟩ : ∃ v, v = e.updateTrims w (s.sensed c.line) trimLists := ⟨_, rfl⟩
  rw [← hv] at handed
  obtain ⟨t, ht⟩ : ∃ t, t = (v.verifyDecision w).settle := ⟨_, rfl⟩
  have goes : exec (.verifySenseComplete ⟨states, trimLists⟩) s = .next t := by
    rw [exec_verifySenseComplete states trimLists op, ht, hv, hw, he]
    exact congrArg (fun x : State => Outcome.next x.settle) (afterLineWork_current _ free current)
  have run : BlockRun v t := by
    rw [ht]
    exact Relation.ReflTransGen.trans (BlockRun.verifyDecision v w) (EngineRun.block (EngineRun.settle _ (Workable.all _)))
  have ttrims : t.health.trims = v.health.trims := by
    rw [ht, (EngineRun.same (EngineRun.settle _ (Workable.all _))).trims, trims_verifyDecision]
  have ports : ∀ l, e.port l = s.port l := fun l => by rw [he]; cases l <;> rfl
  refine ⟨t, goes, fun b => ?_, fun ⟨b, onLine, saturates⟩ => ?_, fun l f mem takes => ?_, fun l out => ?_⟩
  · rw [ttrims, handed.both, line, moves, trims]
  · have sat : trimSaturates (e.health.trims.get b) (e.classCount w (s.sensed c.line) b .underStroke)
        (e.classCount w (s.sensed c.line) b .disturbed) = true := by
      rw [unders, disturbs, trims]
      simp only [trimSaturates, Bool.or_eq_true, Bool.and_eq_true, decide_eq_true_eq]
      exact saturates
    have limit := handed.limit b (line ▸ onLine) sat
    have presence : e.ports.presence = s.ports.presence := by rw [he]; rfl
    exact ⟨BlockRun.limitStands (l := .station) run (limit .station nofun),
      fun present => BlockRun.limitStands (l := .patron) run (limit .patron fun _ => presence.trans present)⟩
  · have etakes : Takes e l .trimList f := by
      rw [he]
      cases l <;> exact takes
    obtain ⟨frames, carries⟩ := handed.taken l f mem etakes
    have kept := BlockRun.port run l
    refine ⟨_, fun b => ?_, by rw [kept.frames, frames, ports], kept.carries _ _ carries⟩
    rw [handed.first, moves, trims, line]
    exact if_congr (by rw [Fin.ext_iff]; rfl) rfl rfl
  · rw [(BlockRun.port run l).frames, handed.frames l out, ports]

end Sys2Proof.Machine
end
